-- ==== Sys2Proof/Word.lean ====
section
/-!
DEFINITION. The word types of the core (spec rules R7, R13, R22) and their plainest facts. The core has no machine
word: each type below is one of the widths the spec names.
-/

namespace Sys2Proof

/-- `u8`: a request byte, a response byte, a scan byte, a key event, a queue slot (R7, R13). -/
abbrev Byte := BitVec 8

/-- `u7`: a key code before the up/down flag is put on it (R7, R75). -/
abbrev Code := BitVec 7

/-- `u16` and `i16`: a frame shift register, a mouse displacement (R7, R22). -/
abbrev Half := BitVec 16

/-- `u4`: the levels of the four sampled wires; a 1 is high (R24). -/
abbrev Wires := BitVec 4

end Sys2Proof
end

