-- ==== Sys2Proof/Syntax.lean ====
section
/-!
DEFINITION. The host requests: one constructor per row of spec/opcode_table.json (R66, R67).
-/

namespace Sys2Proof

/-- A request the host sends (R67). Only the catch-all carries an operand: the received byte, which selects the row
and is otherwise ignored (R171). -/
inductive Instr where
  | reset
  | ps2data
  | ps2led
  | lptdata
  | lptread
  | lptctrl
  | lptbufdata
  | lptreadpend
  | lptsetmode
  | ping
  | bootloader
  | unrecognized (b : Byte)
  deriving DecidableEq, Repr

end Sys2Proof
end

