-- ==== Sys2Proof/WellFormed.lean ====
section
/-!
DEFINITION. Which requests an encoding can stand for: the catch-all row has the lowest priority (R66), so its byte
lies outside `0x41..0x4B` (R67, R171).
-/

namespace Sys2Proof

/-- The byte is one of the eleven defined request codes `'A'..'K'` (R67). -/
def isRequestCode (b : Byte) : Bool := decide (0x41#8 ≤ b) && decide (b ≤ 0x4B#8)

/-- Some byte decodes to this request (R66, R68). -/
def Instr.wellFormed : Instr → Bool
  | .reset => true
  | .ps2data => true
  | .ps2led => true
  | .lptdata => true
  | .lptread => true
  | .lptctrl => true
  | .lptbufdata => true
  | .lptreadpend => true
  | .lptsetmode => true
  | .ping => true
  | .bootloader => true
  | .unrecognized b => !isRequestCode b

end Sys2Proof
end

