-- ==== Sys2Proof/Decode.lean ====
section
/-!
DEFINITION. Decoding the receive stream into requests (R66 to R68, R78), and the encoder that goes back.
-/

namespace Sys2Proof

/-- Why no request is decoded. No byte is refused (R68, R79): the one reason is that none has arrived. -/
inductive DecodeError where
  /-- The receive stream offers no byte. -/
  | noByte
  deriving DecidableEq, Repr

/-- `decode_req` (R68), total over all 256 bytes. -/
def decodeReq (b : Byte) : Instr :=
  if b = 0x41#8 then .reset
  else if b = 0x42#8 then .ps2data
  else if b = 0x43#8 then .ps2led
  else if b = 0x44#8 then .lptdata
  else if b = 0x45#8 then .lptread
  else if b = 0x46#8 then .lptctrl
  else if b = 0x47#8 then .lptbufdata
  else if b = 0x48#8 then .lptreadpend
  else if b = 0x49#8 then .lptsetmode
  else if b = 0x4A#8 then .ping
  else if b = 0x4B#8 then .bootloader
  else .unrecognized b

/-- The next request of the receive stream and the bytes after it: every request is one byte (R66, R78). -/
def decode : List Byte → Except DecodeError (Instr × List Byte)
  | [] => .error .noByte
  | b :: rest => .ok (decodeReq b, rest)

/-- The byte of a request (R67). -/
def encodeByte : Instr → Byte
  | .reset => 0x41#8
  | .ps2data => 0x42#8
  | .ps2led => 0x43#8
  | .lptdata => 0x44#8
  | .lptread => 0x45#8
  | .lptctrl => 0x46#8
  | .lptbufdata => 0x47#8
  | .lptreadpend => 0x48#8
  | .lptsetmode => 0x49#8
  | .ping => 0x4A#8
  | .bootloader => 0x4B#8
  | .unrecognized b => b

/-- A request as the bytes the host sends: one byte (R66). -/
def encode (i : Instr) : List Byte := [encodeByte i]

/-- `n` bytes of the number `w`, its least significant byte first. -/
def lowBytes : Nat → Nat → List Byte
  | 0, _ => []
  | n + 1, w => BitVec.ofNat 8 w :: lowBytes n (w / 256)

/-- The bytes of an opcode-table word of `nbits` bits: at least the one byte every request has. -/
def tableBytes (nbits w : Nat) : List Byte := lowBytes (max 1 (nbits / 8)) w

/-- The request this decoder reads from a word of spec/opcode_table.json, where the request takes all of it. -/
def decodeTableWord (nbits w : Nat) : Option Instr :=
  match decode (tableBytes nbits w) with
  | .ok (i, []) => some i
  | .ok (_, _ :: _) => none
  | .error _ => none

end Sys2Proof
end

