-- ==== Sys2Proof/Machine/Events.lean ====
section
/-!
DEFINITION. The two PS/2 lines, the steps the three agents of R57 can take, and the output events of the core
(R33, R35, R38). All of it is plain data: State holds a list of the first and a list of the second.
-/

namespace Sys2Proof.Machine

/-- One PS/2 bus, the keyboard's or the mouse's (R7, R16). -/
inductive Line where
  | kbd
  | mouse
  deriving DecidableEq, Repr, Inhabited

/-- One atomic step of an agent (R57), or one input the environment offers. -/
inductive Action where
  /-- The interrupt context: `line_change(now)`, one invocation of the sampler (R36, R91). -/
  | sample (now : Wires)
  /-- The poll loop: FRAME_POLL of one line (R94). -/
  | framePoll (l : Line)
  /-- The poll loop: BOOT_ANNOUNCE (R156). -/
  | bootAnnounce
  /-- The poll loop: HOST_SERVICE (R158). -/
  | hostService
  /-- The environment: the receive stream offers one more byte (R34). -/
  | rxByte (b : Byte)
  /-- The environment: `mouse_load(x, y, st)` (R37). -/
  | mouseLoad (x y : Half) (st : Byte)
  /-- The environment: `rx_error`, a transport error (R34, R187). -/
  | rxError
  deriving DecidableEq, Repr, Inhabited

/-- The four steps of the poll loop (R57, R59). -/
inductive PollStep where
  | bootAnnounce
  | pollKbd
  | pollMouse
  | hostService
  deriving DecidableEq, Repr, Inhabited

/-- The action a poll-loop step is. -/
def PollStep.action : PollStep → Action
  | .bootAnnounce => .bootAnnounce
  | .pollKbd => .framePoll .kbd
  | .pollMouse => .framePoll .mouse
  | .hostService => .hostService

/-- The poll-loop step owed after this one: the four in turn (log entry 14). -/
def PollStep.following : PollStep → PollStep
  | .bootAnnounce => .pollKbd
  | .pollKbd => .pollMouse
  | .pollMouse => .hostService
  | .hostService => .bootAnnounce

/-- One event of the core's observable trace (chapter 3 of spec/10_state.md). -/
inductive TraceEvent where
  /-- `emit(b)`: a byte appended to the transmit stream (R33). -/
  | tx (b : Byte)
  /-- `flush()`: every byte emitted so far has been handed to the wire (R33). -/
  | flush
  /-- `out_mouse(b)`: a byte decoded on the MOUSE line (R35). -/
  | outMouse (b : Byte)
  /-- `restart`: the device restarts (R38). -/
  | restart
  deriving DecidableEq, Repr

/-- The byte an event puts on the transmit stream, if it puts one there. -/
def TraceEvent.txByte : TraceEvent → Option Byte
  | .tx b => some b
  | .flush => none
  | .outMouse _ => none
  | .restart => none

/-- The transmit stream of a trace: the bytes it emits, in order (R33). -/
def txBytes (trace : List TraceEvent) : List Byte :=
  trace.filterMap TraceEvent.txByte

end Sys2Proof.Machine
end

