-- ==== Sys2Proof/Config.lean ====
section
/-!
DEFINITION. What an instance of the core fixes: the parameters of R9 to R11, and the free values. A parameter the spec leaves OPEN is an opaque constant here, with no body: no proof can see its
value. State.params holds an instance's parameters (log entry 2), so a statement about every state is a statement
about every value of them; no operation writes them (R32).
-/

namespace Sys2Proof.Config

/-! ## Parameters -/

/-- The scan-code constants of R9. `extMap` is `EXT_MAP` as plain data: its defined entries, in the canonical form
that `valid` asks for. -/
structure ScanConsts where
  extPrefix : Byte
  relPrefix : Byte
  passMax : Byte
  excByte : Byte
  excCode : Code
  extMap : List (Byte × Code)
  deriving DecidableEq, Repr, Inhabited

/-- The canonical form of an extended-code table: keys strictly rising, every value in `0x01..0x7F` (R9). -/
def extMapValid : List (Byte × Code) → Bool
  | [] => true
  | [(_, k)] => k != 0
  | (a, k) :: (b, m) :: rest => k != 0 && decide (a < b) && extMapValid ((b, m) :: rest)

/-- The constraints R9 puts on the scan-code constants. -/
def ScanConsts.valid (c : ScanConsts) : Bool :=
  decide (c.passMax ≤ 0x7F#8) && decide (c.passMax < c.extPrefix) && decide (c.passMax < c.relPrefix)
    && c.relPrefix != c.extPrefix && decide (c.passMax < c.excByte) && c.excByte != c.extPrefix
    && c.excByte != c.relPrefix && c.excCode != 0 && extMapValid c.extMap

/-- The behaviour options of R10, each at its default. -/
structure Options where
  parityCheck : Bool := false
  fixExtRelease : Bool := false
  clearOnRead : Bool := false
  deriving DecidableEq, Repr, Inhabited

/-- The parameters of one instance of the core (R9, R10) and `TX_LOSS_ON_ERROR_RESTART` (R33, R207). -/
structure Params where
  scan : ScanConsts
  options : Options
  txLoss : Bool
  deriving DecidableEq, Repr, Inhabited

/-- `EXCFG`, the example configuration of R12: for tests, not the hardware's. -/
def excfg : ScanConsts where
  extPrefix := 0xE0#8
  relPrefix := 0xF0#8
  passMax := 0x7F#8
  excByte := 0x83#8
  excCode := 0x02#7
  extMap := [(0x6B#8, 0x63#7), (0x72#8, 0x62#7), (0x74#8, 0x64#7), (0x75#8, 0x60#7)]

/-- FREE VALUE (log entry 3): the hardware's scan-code constants before the constraints of R9. -/
opaque scanRaw : ScanConsts

/-- The hardware's scan-code constants (R9, OPEN). They range over every valid value: a valid `scanRaw` is itself,
and one that is not stands for the same value as `EXCFG`. -/
def scan : ScanConsts := if scanRaw.valid then scanRaw else excfg

/-- FREE VALUE (log entry 4): `TX_LOSS_ON_ERROR_RESTART`, OPEN (R33, R207, D18). -/
opaque txLossOnErrorRestart : Bool

/-- The parameters of the machine that `State.reset` is: OPEN values free, options at their defaults (R9, R10). -/
def params : Params where
  scan := scan
  options := {}
  txLoss := txLossOnErrorRestart

/-! ## Free values of a run -/

/-- FREE VALUE (log entry 5): bits 6:0 of the `BOOT_STATUS` that draw number `n` gives (R11, U13). -/
opaque bootStatusBits (n : Nat) : BitVec 7

/-- `BOOT_STATUS` as draw number `n` gives it: any byte whose bit 7 is 1 (R11, R72). -/
def bootStatus (n : Nat) : Byte := 1#1 ++ bootStatusBits n

/-- FREE VALUE (log entry 6): the step taken next where State's agenda names none and no poll-loop step is due (R57,
R59). -/
opaque schedule (n : Nat) : Machine.Action

/-- FREE VALUE (log entry 14): how many free choices come before the poll-loop step owed next is due, as draw number
`n` gives it. It is finite and has no bound: that is the weak fairness of R59. -/
opaque patience (n : Nat) : Nat

/-- FREE VALUE (log entry 4): whether the unflushed byte at position `i` still reaches the host when an error
restart with `TX_LOSS_ON_ERROR_RESTART` happens at draw number `n` (R33, D18). -/
opaque txSurvives (n i : Nat) : Bool

end Sys2Proof.Config
end

