-- ==== Sys2Proof/Machine/Constants.lean ====
section
/-!
DEFINITION. The constants of the core: seed and completion bit (R8), clamp limit (R7), status-byte masks (R140), the
key-up flag (R75) and the response codes (R65, R70). The spec's own decisions among them are named (log entry 9).
-/

namespace Sys2Proof.Config

/-- `SEED` (R8): the sentinel in the lowest bit. -/
def seed : Half := 0x0001#16

/-- `COMPLETE_BIT` (R8; the spec's decision D4). -/
def completeBit : Nat := 11

/-- The clamp limit of a mouse magnitude (R7). -/
def clampLimit : Nat := 255

/-- `SIGN_X` (R140; the spec's decision D11). -/
def signX : Byte := 0x10#8

/-- `SIGN_Y` (R140; D11). -/
def signY : Byte := 0x20#8

/-- `OVF_X` (R140; D11). -/
def ovfX : Byte := 0x40#8

/-- `OVF_Y` (R140; D11). -/
def ovfY : Byte := 0x80#8

/-- The key-up flag in the high bit of a key event (R75). -/
def keyUpFlag : Byte := 0x80#8

/-! ### Response codes (R65, R70; ASCII by the spec's decision D15) -/

/-- `'a'`: the Reset confirmation. -/
def confirmReset : Byte := 0x61#8

/-- `'b'`: the first byte of the PS2-Data confirmation. -/
def confirmPs2data : Byte := 0x62#8

/-- `'j'`: the Ping confirmation. -/
def confirmPing : Byte := 0x6A#8

/-- `'0'`: the first byte of the Booted indication. -/
def bootedCode : Byte := 0x30#8

/-- `'4'`: the bad-command indication (R74). -/
def badCommandCode : Byte := 0x34#8

end Sys2Proof.Config
end

