-- ==== Sys2Proof/Machine/State.lean ====
section
/-!
DEFINITION. The state of the core: the record of R22, the ports of R33 to R38 as lists, the parameters of R9 to R11,
and the model's own bookkeeping of which step comes next (R57). All of it is plain data. Then the reasons a step can
stop, and the state at power-on (R208).
-/

namespace Sys2Proof.Machine

/-- A pair of values, one for each PS/2 line. -/
structure PerLine (α : Type) where
  kbd : α
  mouse : α
  deriving DecidableEq, Repr

/-- The value of one line. -/
def PerLine.get {α : Type} (p : PerLine α) : Line → α
  | .kbd => p.kbd
  | .mouse => p.mouse

/-- The pair with the value of one line replaced. -/
def PerLine.set {α : Type} (p : PerLine α) : Line → α → PerLine α
  | .kbd, v => { p with kbd := v }
  | .mouse, v => { p with mouse := v }

/-- What a Bit Mailbox holds (R23). -/
inductive BitState where
  | waiting
  | low
  | high
  deriving DecidableEq, Repr

/-- The translator's state (R26). -/
inductive KState where
  | idle
  | extended
  | extendedRelease
  | release
  deriving DecidableEq, Repr

/-- The Key Event Queue: three slots named by position, 0 for an empty one (R27). -/
structure KeyQueue where
  k0 : Byte
  k1 : Byte
  k2 : Byte
  deriving DecidableEq, Repr

/-- The Mouse Accumulator (R28): `S.acc_x`, `S.acc_y`, `S.acc_status`. -/
structure MouseAcc where
  x : Half
  y : Half
  status : Byte
  deriving DecidableEq, Repr

/-- Why a step faults: never. No operation of the core traps, faults or stops on any input (R185). -/
inductive Fault where
  deriving DecidableEq, Repr

/-- Why a step is refused. -/
inductive Refusal where
  /-- An arm of `exec` for a request that has no meaning yet. No arm raises it. Safe. -/
  | notModelled (mnemonic : String)
  /-- HOST_SERVICE finds `S.session` other than 0: `refuse(session_nonzero)` (R29, R158). Safe: the spec gives the
  state no meaning and no run reaches it. -/
  | sessionNonzero
  deriving DecidableEq, Repr

/-- The state of the core and of its ports. `mbox` to `bootPending` are the record of R22. -/
structure State where
  /-- `S.mbox` (R23). -/
  mbox : PerLine BitState
  /-- `S.prev`: bit 0 KBD_CLK, bit 1 KBD_DATA, bit 2 MS_CLK, bit 3 MS_DATA (R24). -/
  prev : Wires
  /-- `S.sr` (R25). -/
  sr : PerLine Half
  /-- `S.kstate` (R26). -/
  kstate : KState
  /-- `S.kq` (R27). -/
  kq : KeyQueue
  /-- `S.acc_x`, `S.acc_y`, `S.acc_status` (R28). -/
  acc : MouseAcc
  /-- `S.session` (R29). -/
  session : Byte
  /-- `S.boot_pending` (R30). -/
  bootPending : Bool
  /-- `BOOT_STATUS` as the last restart drew it (R11, R156, R205). -/
  bootStatus : Byte
  /-- The receive stream: bytes received and not yet taken by HOST_SERVICE, oldest first (R34, R205). -/
  rx : List Byte
  /-- The observable trace, oldest event first (R33, R35, R38). -/
  trace : List TraceEvent
  /-- The bytes a flush has handed to the wire, in order: they reach the host (R33). -/
  wire : List Byte
  /-- The bytes emitted since the last flush, less those an error restart has lost: they reach the host after `wire`
  unless a later error restart loses them (R33, R207, D18). -/
  unflushed : List Byte
  /-- The parameters of this instance of the core (R9, R10, R33); nothing writes them (R32). -/
  params : Config.Params
  /-- The model's own: the steps the agents take next, in order (R57). -/
  agenda : List Action
  /-- The model's own: the poll-loop step that is owed next (R59). -/
  owed : PollStep
  /-- The model's own: how many free choices may come before the owed step is taken (R59). -/
  patience : Nat
  /-- The model's own: how many free values have been drawn. -/
  draws : Nat
  deriving DecidableEq, Repr

/-- The state at power-on: the reset column of R22, without the trace event `restart` (R208). Draw 0 is the
`BOOT_STATUS` of power-on, and its first patience. -/
def State.reset : State where
  mbox := { kbd := .waiting, mouse := .waiting }
  prev := 0b1111#4
  sr := { kbd := Config.seed, mouse := Config.seed }
  kstate := .idle
  kq := { k0 := 0#8, k1 := 0#8, k2 := 0#8 }
  acc := { x := 0#16, y := 0#16, status := 0#8 }
  session := 0#8
  bootPending := true
  bootStatus := Config.bootStatus 0
  rx := []
  trace := []
  wire := []
  unflushed := []
  params := Config.params
  agenda := []
  owed := .bootAnnounce
  patience := Config.patience 0
  draws := 1

end Sys2Proof.Machine
end

