-- ==== Sys2Proof/Machine/Operands.lean ====
section
/-!
DEFINITION. What an operation takes its operands from: the wires of a line (R24), the level in a mailbox (R23), the
shift register and the byte inside a complete frame (R77, R95, R97), and the two scan-code mappings (R110, R111).
-/

namespace Sys2Proof.Machine

/-- Which bit of the wire snapshot is the clock of a line (R24). -/
def clkBit : Line → Nat
  | .kbd => 0
  | .mouse => 2

/-- Which bit of the wire snapshot is the data wire of a line (R24). -/
def dataBit : Line → Nat
  | .kbd => 1
  | .mouse => 3

/-- The clock of a line is high. -/
def clkLevel (l : Line) (w : Wires) : Bool := w.getLsbD (clkBit l)

/-- The data wire of a line is high. -/
def dataLevel (l : Line) (w : Wires) : Bool := w.getLsbD (dataBit l)

/-- The clock of a line falls between two snapshots: it changes and is now low (R91). -/
def clkFalls (l : Line) (prev now : Wires) : Bool :=
  clkLevel l (prev ^^^ now) && !clkLevel l now

/-- The Bit State that stands for a data level (R91). -/
def BitState.ofLevel (high : Bool) : BitState := if high then .high else .low

/-- The bit waiting in a mailbox; none where it holds Waiting (R23, R94). -/
def BitState.bit : BitState → Option Bool
  | .waiting => none
  | .low => some false
  | .high => some true

/-- Shift one bit into a shift register, truncated to 16 bits (R95). -/
def shiftIn (sr : Half) (bit : Bool) : Half :=
  (sr <<< 1) ||| (if bit then 0x0001#16 else 0x0000#16)

/-- A frame is complete (R96). -/
def frameComplete (r : Half) : Bool := r.getLsbD Config.completeBit

/-- The start bit of a complete frame (R77). -/
def startBit (r : Half) : Bool := r.getLsbD 10

/-- The stop bit of a complete frame (R77). -/
def stopBit (r : Half) : Bool := r.getLsbD 0

/-- `frame_byte` (R97): the sum of `r[9-i] * 2^i` over `i` from 0 to 7. -/
def frameByte (r : Half) : Byte :=
  BitVec.ofNat 8 ((List.range 8).map fun i => (r.getLsbD (9 - i)).toNat * 2 ^ i).sum

/-- `base_map` (R110). -/
def baseMap (c : Config.ScanConsts) (b : Byte) : Option Code :=
  if b ≤ c.passMax then some (b.setWidth 7)
  else if b = c.excByte then some c.excCode
  else none

/-- The value an extended-code table gives a byte; none where it has no entry. -/
def tableLookup (b : Byte) : List (Byte × Code) → Option Code
  | [] => none
  | (a, k) :: rest => if b = a then some k else tableLookup b rest

/-- `EXT_MAP` (R111). -/
def extMap (c : Config.ScanConsts) (b : Byte) : Option Code := tableLookup b c.extMap

end Sys2Proof.Machine
end

