-- ==== Sys2Proof/Machine/Flags.lean ====
section
/-!
DEFINITION. The flag-like bits of R31: the up/down bit of a key event (R75), the sign and overflow bits of the mouse
status byte (R143, R145), and the two checks that decide whether a frame is valid (R96, R98).
-/

namespace Sys2Proof.Machine

/-- A key event: the code, with the up/down flag in the high bit (R75, R112). -/
def keyEvent (k : Code) (up : Bool) : Byte :=
  k.setWidth 8 ||| (if up then Config.keyUpFlag else 0x00#8)

/-- How many of the data bits and the parity bit of a complete frame are 1: bits 9 down to 1 (R77, R98). -/
def parityCount (r : Half) : Nat :=
  ((List.range 9).map fun i => (r.getLsbD (i + 1)).toNat).sum

/-- `parity_ok` (R98): the data bits and the parity bit together have odd parity. -/
def parityOk (r : Half) : Bool := parityCount r % 2 == 1

/-- A complete frame is valid (R94, R96): start 0, stop 1, and good parity where `PARITY_CHECK` asks for it. -/
def frameValid (parityCheck : Bool) (r : Half) : Bool :=
  !startBit r && stopBit r && (!parityCheck || parityOk r)

/-- The absolute value of a displacement, computed without overflow (R13, R144). -/
def magnitude (v : Half) : Nat := v.toInt.natAbs

/-- The magnitude exceeds the clamp limit (R143). -/
def overflows (v : Half) : Bool := decide (Config.clampLimit < magnitude v)

/-- The displacement is negative (R145). -/
def isNegative (v : Half) : Bool := decide (v.toInt < 0)

/-- The reported magnitude of an axis (R143). -/
def clampedMagnitude (v : Half) : Byte :=
  if overflows v then BitVec.ofNat 8 Config.clampLimit else BitVec.ofNat 8 (magnitude v)

/-- The status byte after one axis has set its overflow and sign bits (`axis` of R143). -/
def axisStatus (v : Half) (st sign ovf : Byte) : Byte :=
  let st := if overflows v then st ||| ovf else st
  if isNegative v then st ||| sign else st

end Sys2Proof.Machine
end

