-- ==== Sys2Proof/Machine/Ops.lean ====
section
/-!
DEFINITION. The operations every component is built from: the effects of R14 (emit, flush, out_mouse, restart), the
transport's side of an error restart (R33, R207), and the queue's push and collect (R130, R131).

Restart is what the core has in place of taking an exception (R185, R186): one operation, shared by the RESET request
and by a transport error (R206). There is no return from it (R193).
-/

namespace Sys2Proof.Machine

/-! ## Output -/

/-- `emit(b)` for each byte in turn (R14, R33). -/
def emits (bs : List Byte) (s : State) : State :=
  { s with trace := s.trace ++ bs.map .tx, unflushed := s.unflushed ++ bs }

/-- `emit(b)` (R14, R33). -/
def emit (b : Byte) (s : State) : State := emits [b] s

/-- `flush()`: every byte emitted so far has been handed to the wire (R14, R33). -/
def flush (s : State) : State :=
  { s with trace := s.trace ++ [.flush], wire := s.wire ++ s.unflushed, unflushed := [] }

/-- `out_mouse(b)` (R14, R35). -/
def outMouse (b : Byte) (s : State) : State :=
  { s with trace := s.trace ++ [.outMouse b] }

/-- The bytes of a list, from position `i` on, whose position is kept. -/
def survivors (keep : Nat → Bool) : Nat → List Byte → List Byte
  | _, [] => []
  | i, b :: rest => if keep i then b :: survivors keep (i + 1) rest else survivors keep (i + 1) rest

/-- What a transport error leaves of the bytes emitted since the last flush: all of them, or, with
`TX_LOSS_ON_ERROR_RESTART`, a free choice among them (R33, R187, R207, D18; log entry 4). -/
def transportLoss (s : State) : State :=
  { s with
    unflushed := if s.params.txLoss then survivors (Config.txSurvives s.draws) 0 s.unflushed else s.unflushed }

/-! ## Restart -/

/-- `restart()` (R205): every element of R22 takes its reset value, a new `BOOT_STATUS` is drawn, and the received
bytes not yet taken are discarded. The trace and the parameters survive (R207). -/
def restart (s : State) : State :=
  { s with
    mbox := { kbd := .waiting, mouse := .waiting }
    prev := 0b1111#4
    sr := { kbd := Config.seed, mouse := Config.seed }
    kstate := .idle
    kq := { k0 := 0#8, k1 := 0#8, k2 := 0#8 }
    acc := { x := 0#16, y := 0#16, status := 0#8 }
    session := 0#8
    bootPending := true
    bootStatus := Config.bootStatus s.draws
    rx := []
    trace := s.trace ++ [.restart]
    draws := s.draws + 1 }

/-- RX_ERROR (R187): the restart a transport error causes, with no confirmation and no flush. -/
def rxError (s : State) : State := restart (transportLoss s)

/-! ## Key Event Queue -/

/-- PUSH on the three slots: the first empty one takes the event; a full queue drops it (R130). -/
def KeyQueue.push (e : Byte) (q : KeyQueue) : KeyQueue :=
  if q.k0 = 0#8 then { q with k0 := e }
  else if q.k1 = 0#8 then { q with k1 := e }
  else if q.k2 = 0#8 then { q with k2 := e }
  else q

/-- PUSH (R130). -/
def push (e : Byte) (s : State) : State := { s with kq := s.kq.push e }

/-- The state side of COLLECT (R131): the slots are cleared where `CLEAR_ON_READ` asks for it. What COLLECT returns
are the slots before it. -/
def collect (s : State) : State :=
  { s with kq := if s.params.options.clearOnRead then { k0 := 0#8, k1 := 0#8, k2 := 0#8 } else s.kq }

/-! ## Mouse Accumulator -/

/-- `mouse_load(x, y, st)` (R37): the only writer of the accumulator but restart. -/
def mouseLoad (x y : Half) (st : Byte) (s : State) : State :=
  { s with acc := { x := x, y := y, status := st } }

end Sys2Proof.Machine
end

