-- ==== Sys2Proof/Machine/Mouse.lean ====
section
/-!
DEFINITION. The Mouse Report Encoder (spec/43_mouse_encoder.md). It writes no state (R147).
-/

namespace Sys2Proof.Machine

/-- The encoded status byte (R143): the sign bits are dropped and both axes set their own; buttons, bit 3 and
overflow bits are carried through (R146). -/
def reportStatus (a : MouseAcc) : Byte :=
  axisStatus a.y
    (axisStatus a.x (a.status &&& ~~~(Config.signX ||| Config.signY)) Config.signX Config.ovfX)
    Config.signY Config.ovfY

/-- ENCODE (R143): the status byte, then the two clamped magnitudes. -/
def encodeReport (a : MouseAcc) : List Byte :=
  [reportStatus a, clampedMagnitude a.x, clampedMagnitude a.y]

end Sys2Proof.Machine
end

