-- ==== Sys2Proof/Machine/HostEngine.lean ====
section
/-!
DEFINITION. The Host Command Engine (spec/44_host_commands.md): BOOT_ANNOUNCE and the meaning of every request.
-/

namespace Sys2Proof.Machine

/-- BOOT_ANNOUNCE (R156). -/
def bootAnnounce (s : State) : State :=
  { emits [Config.bootedCode, s.bootStatus] s with bootPending := false }

/-- The PS2-Data confirmation of a state: its seven bytes in order (R71, R161). -/
def ps2dataResponse (s : State) : List Byte :=
  [Config.confirmPs2data, s.kq.k0, s.kq.k1, s.kq.k2] ++ encodeReport s.acc

/-- The answer to a request that is not implemented or not recognised (R74, R188). -/
def badCommand (s : State) : State := emit Config.badCommandCode s

/-- RESET (R160): confirm, flush, restart. -/
def execReset (s : State) : Host.Outcome State Fault Refusal :=
  .next (restart (flush (emit Config.confirmReset s)))

/-- PS2DATA (R161): COLLECT and ENCODE, then the seven bytes. -/
def execPs2data (s : State) : Host.Outcome State Fault Refusal :=
  .next (emits (ps2dataResponse s) (collect s))

/-- PS2LED (R163): defined and not implemented. -/
def execPs2led (s : State) : Host.Outcome State Fault Refusal := .next (badCommand s)

/-- LPTDATA (R164): defined and not implemented. -/
def execLptdata (s : State) : Host.Outcome State Fault Refusal := .next (badCommand s)

/-- LPTREAD (R165): defined and not implemented. -/
def execLptread (s : State) : Host.Outcome State Fault Refusal := .next (badCommand s)

/-- LPTCTRL (R166): defined and not implemented. -/
def execLptctrl (s : State) : Host.Outcome State Fault Refusal := .next (badCommand s)

/-- LPTBUFDATA (R167): defined and not implemented. -/
def execLptbufdata (s : State) : Host.Outcome State Fault Refusal := .next (badCommand s)

/-- LPTREADPEND (R168): defined and not implemented. -/
def execLptreadpend (s : State) : Host.Outcome State Fault Refusal := .next (badCommand s)

/-- LPTSETMODE (R169): defined and not implemented. -/
def execLptsetmode (s : State) : Host.Outcome State Fault Refusal := .next (badCommand s)

/-- PING (R162): its confirmation and nothing else. -/
def execPing (s : State) : Host.Outcome State Fault Refusal := .next (emit Config.confirmPing s)

/-- BOOTLOADER (R170): defined and not implemented; no bootloader is entered and nothing restarts. -/
def execBootloader (s : State) : Host.Outcome State Fault Refusal := .next (badCommand s)

/-- UNRECOGNIZED (R171): the byte only selects this row. -/
def execUnrecognized (_b : Byte) (s : State) : Host.Outcome State Fault Refusal := .next (badCommand s)

end Sys2Proof.Machine
end

