-- ==== Sys2Proof/Machine/Dispatch.lean ====
section
/-!
DEFINITION. The dispatch of R158: one arm per request, each one call of its meaning.
-/

namespace Sys2Proof.Machine

def exec (i : Instr) (s : State) : Host.Outcome State Fault Refusal :=
  match i with
  | .reset => Sys2Proof.Machine.execReset s
  | .ps2data => Sys2Proof.Machine.execPs2data s
  | .ps2led => Sys2Proof.Machine.execPs2led s
  | .lptdata => Sys2Proof.Machine.execLptdata s
  | .lptread => Sys2Proof.Machine.execLptread s
  | .lptctrl => Sys2Proof.Machine.execLptctrl s
  | .lptbufdata => Sys2Proof.Machine.execLptbufdata s
  | .lptreadpend => Sys2Proof.Machine.execLptreadpend s
  | .lptsetmode => Sys2Proof.Machine.execLptsetmode s
  | .ping => Sys2Proof.Machine.execPing s
  | .bootloader => Sys2Proof.Machine.execBootloader s
  | .unrecognized b => Sys2Proof.Machine.execUnrecognized b s

end Sys2Proof.Machine
end

