-- ==== Sys2Proof/Machine/Translator.lean ====
section
/-!
DEFINITION. The Keyboard Scan-Code Translator (spec/41_scan_translator.md): TRANSLATE(b), one definition per state.
-/

namespace Sys2Proof.Machine

/-- `emit_key` where the mapping is defined, and nothing where it is not (R15, R112). -/
def emitMapped (k : Option Code) (up : Bool) (s : State) : State :=
  match k with
  | some k => push (keyEvent k up) s
  | none => s

/-- The translator goes to a state. -/
def setKState (k : KState) (s : State) : State := { s with kstate := k }

/-- TRANSLATE in Idle (R113). -/
def translateIdle (b : Byte) (s : State) : State :=
  if b = s.params.scan.extPrefix then setKState .extended s
  else if b = s.params.scan.relPrefix then setKState .release s
  else setKState .idle (emitMapped (baseMap s.params.scan b) false s)

/-- TRANSLATE in Extended (R114). -/
def translateExtended (b : Byte) (s : State) : State :=
  setKState .idle (emitMapped (extMap s.params.scan b) false s)

/-- TRANSLATE in Release (R115): the reference behaviour, or the repaired one with `FIX_EXT_RELEASE`. -/
def translateRelease (b : Byte) (s : State) : State :=
  if b = s.params.scan.extPrefix then
    setKState (if s.params.options.fixExtRelease then .extendedRelease else .extended) s
  else setKState .idle (emitMapped (baseMap s.params.scan b) true s)

/-- TRANSLATE in ExtendedRelease (R116). -/
def translateExtendedRelease (b : Byte) (s : State) : State :=
  setKState .idle (emitMapped (extMap s.params.scan b) true s)

/-- TRANSLATE(b) (R113 to R116). -/
def translateByte (b : Byte) (s : State) : State :=
  match s.kstate with
  | .idle => translateIdle b s
  | .extended => translateExtended b s
  | .release => translateRelease b s
  | .extendedRelease => translateExtendedRelease b s

end Sys2Proof.Machine
end

