-- ==== Sys2Proof/Machine/Lines.lean ====
section
/-!
DEFINITION. The Line Edge Sampler, the Bit Mailboxes and the two Frame Decoders (spec/40_frame_decoder.md).
-/

namespace Sys2Proof.Machine

/-- What SAMPLE leaves in the mailbox of one line (R91): the data level where the clock falls, overwriting what the
mailbox held (R60, R93); else what it held. -/
def sampledMailbox (l : Line) (now : Wires) (s : State) : BitState :=
  if clkFalls l s.prev now then .ofLevel (dataLevel l now) else s.mbox.get l

/-- SAMPLE(now) (R91). -/
def sample (now : Wires) (s : State) : State :=
  { s with
    mbox := { kbd := sampledMailbox .kbd now s, mouse := sampledMailbox .mouse now s }
    prev := now }

/-- `deliver(L, b)`: a keyboard byte is translated in the same step (R99); a mouse byte goes to its port (R100). -/
def deliver (l : Line) (b : Byte) (s : State) : State :=
  match l with
  | .kbd => translateByte b s
  | .mouse => outMouse b s

/-- FRAME_POLL's writes of the mailbox and the shift register: the bit is taken and cleared in one step (R60, R94). -/
def takeBit (l : Line) (sr : Half) (s : State) : State :=
  { s with mbox := s.mbox.set l .waiting, sr := s.sr.set l sr }

/-- FRAME_POLL's use of one consumed bit (R94 to R98). -/
def consumeBit (l : Line) (bit : Bool) (s : State) : State :=
  let r := shiftIn (s.sr.get l) bit
  if frameComplete r then
    if frameValid s.params.options.parityCheck r then deliver l (frameByte r) (takeBit l Config.seed s)
    else takeBit l Config.seed s
  else takeBit l r s

/-- FRAME_POLL(L) (R94). -/
def framePoll (l : Line) (s : State) : State :=
  match (s.mbox.get l).bit with
  | none => s
  | some bit => consumeBit l bit s

end Sys2Proof.Machine
end

