-- ==== Sys2Proof/Machine/Agents.lean ====
section
/-!
DEFINITION. The steps of the three agents (R57), with the gate that holds the poll loop back until the Booted
indication has been sent (R157). A step that is not enabled is not taken: choosing it leaves the state as it is
(log entry 7). Then the choice of the step that comes next: the agenda's, or a free one that is weakly fair to the poll
loop (R59).
-/

namespace Sys2Proof.Machine

/-- The environment offers one more received byte (R34). -/
def receive (b : Byte) (s : State) : State := { s with rx := s.rx ++ [b] }

/-- HOST_SERVICE (R158): enabled when the boot is announced and a byte has been received. It takes that byte, and
only then decodes and runs the request. -/
def hostService (s : State) : Host.Outcome State Fault Refusal :=
  if s.bootPending then .next s
  else
    match decode s.rx with
    | .error _ => .next s
    | .ok (i, rest) => if s.session = 0#8 then exec i { s with rx := rest } else .refused .sessionNonzero

/-- One step of one agent, or one input of the environment (R57). -/
def perform (a : Action) (s : State) : Host.Outcome State Fault Refusal :=
  match a with
  | .sample now => .next (sample now s)
  | .framePoll l => .next (if s.bootPending then s else framePoll l s)
  | .bootAnnounce => .next (if s.bootPending then bootAnnounce s else s)
  | .hostService => hostService s
  | .rxByte b => .next (receive b s)
  | .mouseLoad x y st => .next (mouseLoad x y st s)
  | .rxError => .next (rxError s)

/-- The action the next step takes: the agenda's first. Where the agenda names none it is a free choice, but for the
poll-loop step owed, which is due when its patience has run out (R57, R59; log entries 6 and 14). -/
def nextAction (s : State) : Action :=
  match s.agenda with
  | a :: _ => a
  | [] => if s.patience = 0 then s.owed.action else Config.schedule s.draws

/-- The state that action acts on: the choice is taken off the agenda, or drawn. A free choice uses up patience; taking
the owed step makes the one after it owed and draws a new patience (R59). -/
def afterChoice (s : State) : State :=
  match s.agenda with
  | _ :: rest => { s with agenda := rest }
  | [] =>
    if s.patience = 0 then
      { s with owed := s.owed.following, patience := Config.patience s.draws, draws := s.draws + 1 }
    else { s with patience := s.patience - 1, draws := s.draws + 1 }

end Sys2Proof.Machine
end

