-- ==== Sys2Proof/Machine/Step.lean ====
section
/-!
DEFINITION. One step of the machine: the next action of an agent (R57, R59). And where a request is put so that the next step runs it.
-/

namespace Sys2Proof.Machine

/-- One step: any agent's step may be the next one (R57), and a poll-loop step that stays enabled is eventually
taken (R59). -/
def step (s : State) : Host.Outcome State Fault Refusal := perform (nextAction s) (afterChoice s)

/-- The state with a request at the head of the receive stream and HOST_SERVICE next, enabled (R157, R158). -/
def State.withFetchWord (s : State) (nbits w : Nat) : State :=
  { s with
    rx := tableBytes nbits w ++ s.rx
    agenda := .hostService :: s.agenda
    bootPending := false
    session := 0#8 }

end Sys2Proof.Machine
end

