-- ==== Sys2Proof/Safety.lean ====
section
/-!
DEFINITION. The terms claims about the core are made in: the invariant every step keeps, what the transport owes the
host, the step that comes next, weak fairness, and the notation of R81 for the wire events of a frame.
-/

namespace Sys2Proof.Machine

/-! ## Invariants -/

/-- A shift register holds a sentinel at one of the positions 0 to 10 (R25). -/
def registerOk (r : Half) : Prop := 0x0001#16 ≤ r ∧ r ≤ 0x07FF#16

/-- The occupied slots of the queue form a prefix (R134). -/
def KeyQueue.isPrefix (q : KeyQueue) : Prop :=
  (q.k0 = 0#8 → q.k1 = 0#8 ∧ q.k2 = 0#8) ∧ (q.k1 = 0#8 → q.k2 = 0#8)

/-- What holds in every reachable state and is kept by every step from any state that has it. -/
structure State.Inv (s : State) : Prop where
  /-- The keyboard shift register keeps its sentinel (R25). -/
  kbdRegister : registerOk s.sr.kbd
  /-- The mouse shift register keeps its sentinel (R25). -/
  mouseRegister : registerOk s.sr.mouse
  /-- The queue fills from slot 0 (R134). -/
  queue : s.kq.isPrefix
  /-- The session count is 0 (R29). -/
  session : s.session = 0#8
  /-- Bit 7 of the Booted status byte is 1 (R11, R72). -/
  bootBit : s.bootStatus.getLsbD 7 = true
  /-- ExtendedRelease is not entered unless `FIX_EXT_RELEASE` (R26). -/
  noExtendedRelease : s.params.options.fixExtRelease = false → s.kstate ≠ .extendedRelease
  /-- The scan-code constants meet the constraints of R9. -/
  constants : s.params.scan.valid = true

/-- What the transport owes the host (R33): the bytes that reach it are emitted bytes in the order emitted, and,
without `TX_LOSS_ON_ERROR_RESTART`, all of them. -/
structure State.Delivery (s : State) : Prop where
  inOrder : (s.wire ++ s.unflushed).Sublist (txBytes s.trace)
  noLoss : s.params.txLoss = false → s.wire ++ s.unflushed = txBytes s.trace

/-! ## The step that comes next -/

/-- HOST_SERVICE comes next, is enabled, and takes this byte (R158). -/
def servesNext (s : State) (b : Byte) : Prop :=
  nextAction s = .hostService ∧ s.bootPending = false ∧ s.rx.head? = some b

/-- A restart happens between two states: the trace gained events, `restart` among them (R38). -/
def restartedBetween (s t : State) : Prop :=
  ∃ new, t.trace = s.trace ++ new ∧ TraceEvent.restart ∈ new

/-- A number of steps, ending at the first that does not answer a next state: `Host.Core.run` of this machine. -/
def runSteps : Nat → State → Host.Outcome State Fault Refusal
  | 0, s => .next s
  | n + 1, s =>
    match step s with
    | .next t => runSteps n t
    | .fault r => .fault r
    | .refused r => .refused r

/-! ## Weak fairness (R59) -/

/-- A poll-loop step is enabled (R94, R156, R157, R158). -/
def PollStep.enabled (p : PollStep) (s : State) : Prop :=
  match p with
  | .bootAnnounce => s.bootPending = true
  | .pollKbd => s.bootPending = false
  | .pollMouse => s.bootPending = false
  | .hostService => s.bootPending = false ∧ s.rx ≠ []

/-- The run from a state is weakly fair (R59): a poll-loop step enabled in every state of the run is taken in one. -/
def WeaklyFairFrom (s : State) : Prop :=
  ∀ p : PollStep, (∀ n t, runSteps n s = .next t → p.enabled t) →
    ∃ n t, runSteps n s = .next t ∧ p.enabled t ∧ nextAction t = p.action

/-! ## Frames on the wires (R76, R81) -/

/-- The wire levels with the data and clock wire of one line replaced. -/
def setWires (l : Line) (data clk : Bool) (w : Wires) : Wires :=
  match l with
  | .kbd => (w &&& 0b1100#4) ||| (if data then 0b0010#4 else 0#4) ||| (if clk then 0b0001#4 else 0#4)
  | .mouse => (w &&& 0b0011#4) ||| (if data then 0b1000#4 else 0#4) ||| (if clk then 0b0100#4 else 0#4)

/-- One bit on a line (R81): the data wire takes its value with the clock high, the clock falls, the line is polled. -/
def bitActions (l : Line) (w : Wires) (bit : Bool) : List Action :=
  [.sample (setWires l bit true w), .sample (setWires l bit false w), .framePoll l]

/-- The eleven bits of a frame in the order of arrival: start, data with its low bit first, parity, stop (R51, R76). -/
def frameBits (start : Bool) (d : Byte) (parity stop : Bool) : List Bool :=
  [start, d.getLsbD 0, d.getLsbD 1, d.getLsbD 2, d.getLsbD 3, d.getLsbD 4, d.getLsbD 5, d.getLsbD 6, d.getLsbD 7,
    parity, stop]

/-- The events of a whole frame, well-formed or not (R81); after the last bit the clock returns high. -/
def frameActions (l : Line) (w : Wires) (start : Bool) (d : Byte) (parity stop : Bool) : List Action :=
  (frameBits start d parity stop).flatMap (bitActions l w) ++ [.sample (setWires l stop true w)]

/-- The number of steps a frame takes: three for each of its eleven bits, and one. -/
def frameSteps : Nat := 34

/-- Data and parity bits together have odd parity (R76, R98). -/
def oddParity (d : Byte) (parity : Bool) : Bool :=
  (((List.range 8).map fun i => (d.getLsbD i).toNat).sum + parity.toNat) % 2 == 1

/-- A frame is accepted (R94, R96). -/
def frameAccepted (parityCheck : Bool) (start : Bool) (d : Byte) (parity stop : Bool) : Bool :=
  !start && stop && (!parityCheck || oddParity d parity)

end Sys2Proof.Machine
end

