-- ==== Sys2Proof/Certificates/Slice0/Obligations.lean ====
section
/-!
DEFINITION. The statements for the provers. Each docstring names the rule of spec/ it formalises, or, where it rests
on one of the spec's own decisions (D<n> of spec/92_eei_decisions.md) or on a log entry, says so.
-/

open Sys2Proof Sys2Proof.Machine

/-! ## Requests: decoding and encoding -/

/-- The twelve rows of the request table, each word written out bit by bit from 30_encoding.md; the letters' byte
values are the spec's decisions D15 and D30. -/
def Obligations.RequestWordsDecodeAsTabled : Prop :=
  decodeTableWord 8 0b01000001 = some .reset ∧
  decodeTableWord 8 0b01000010 = some .ps2data ∧
  decodeTableWord 8 0b01000011 = some .ps2led ∧
  decodeTableWord 8 0b01000100 = some .lptdata ∧
  decodeTableWord 8 0b01000101 = some .lptread ∧
  decodeTableWord 8 0b01000110 = some .lptctrl ∧
  decodeTableWord 8 0b01000111 = some .lptbufdata ∧
  decodeTableWord 8 0b01001000 = some .lptreadpend ∧
  decodeTableWord 8 0b01001001 = some .lptsetmode ∧
  decodeTableWord 8 0b01001010 = some .ping ∧
  decodeTableWord 8 0b01001011 = some .bootloader ∧
  decodeTableWord 8 0b01011010 = some (.unrecognized 0x5A#8)

/-- R68: `decode_req` over all 256 bytes. -/
def Obligations.RequestDecodeIsTotal : Prop :=
  decodeReq 0x41#8 = .reset ∧ decodeReq 0x42#8 = .ps2data ∧ decodeReq 0x43#8 = .ps2led ∧
  decodeReq 0x44#8 = .lptdata ∧ decodeReq 0x45#8 = .lptread ∧ decodeReq 0x46#8 = .lptctrl ∧
  decodeReq 0x47#8 = .lptbufdata ∧ decodeReq 0x48#8 = .lptreadpend ∧ decodeReq 0x49#8 = .lptsetmode ∧
  decodeReq 0x4A#8 = .ping ∧ decodeReq 0x4B#8 = .bootloader ∧
  ∀ b : Byte, b < 0x41#8 ∨ 0x4B#8 < b → decodeReq b = .unrecognized b

/-- Decoding the bytes of any well-formed request gives that request back and leaves the bytes after it (R66, R68,
R78). -/
def Obligations.DecodeInvertsEncode : Prop :=
  ∀ (i : Instr) (rest : List Byte), i.wellFormed = true → decode (encode i ++ rest) = .ok (i, rest)

/-- What is decoded is well-formed and encodes to the bytes it was read from, so every byte has one meaning (R68). -/
def Obligations.EncodeInvertsDecode : Prop :=
  ∀ (bs rest : List Byte) (i : Instr), decode bs = .ok (i, rest) → i.wellFormed = true ∧ encode i ++ rest = bs

/-! ## What a step is -/

/-- HOST_SERVICE next and enabled: the step takes the next received byte and is `exec` of the request it decodes to
(R158). In a state with a session count other than 0, which no run reaches, the step is refused (R29, D22). -/
def Obligations.StepRunsDecodedRequest : Prop :=
  ∀ (s : State) (ag : List Action) (i : Instr) (rest : List Byte),
    s.agenda = .hostService :: ag → s.bootPending = false → decode s.rx = .ok (i, rest) →
      (s.session = 0#8 → step s = exec i { s with agenda := ag, rx := rest }) ∧
      (s.session ≠ 0#8 → step s = .refused .sessionNonzero)

/-- The model's choice (log entries 6 and 14): an empty agenda draws the next action, which may be any, and each such
choice uses up patience; with none left the owed poll-loop step is taken, the next becomes owed, and a new patience is
drawn. -/
def Obligations.EmptyAgendaDrawsAnAction : Prop :=
  ∀ s : State, s.agenda = [] →
    (s.patience ≠ 0 →
      step s = perform (Config.schedule s.draws) { s with patience := s.patience - 1, draws := s.draws + 1 }) ∧
    (s.patience = 0 →
      step s = perform s.owed.action
        { s with owed := s.owed.following, patience := Config.patience s.draws, draws := s.draws + 1 })

/-- The model's choice (log entry 14, DESIGN CHOICE), from which the weak fairness of R59 follows: from any state with
the session count 0, whatever its agenda, its owed step and its patience, each of the four poll-loop steps is the next
action after some number of steps, none included, whether it is enabled or not, and the session count is still 0. R59
itself asks this only of a step that stays enabled. -/
def Obligations.EveryPollStepComesUp : Prop :=
  ∀ (s : State) (p : PollStep), s.session = 0#8 →
    ∃ n t, runSteps n s = .next t ∧ nextAction t = p.action ∧ t.session = 0#8

/-- R59 (D2): every run is weakly fair: a poll-loop step that stays enabled is eventually taken. -/
def Obligations.EveryRunIsWeaklyFair : Prop :=
  ∀ s : State, s.session = 0#8 → WeaklyFairFrom s

/-- R59 with R157 and R209 (D2, D16): from any state that waits for the Booted indication, a run comes to the state in
which it has been sent, whatever edges, loads, received bytes and transport errors come before; the indication is all
that run has put on the transmit stream. -/
def Obligations.EveryBootIsAnnounced : Prop :=
  ∀ s : State, s.session = 0#8 → s.bootPending = true →
    ∃ n t status, runSteps n s = .next t ∧ t.bootPending = false ∧
      txBytes t.trace = txBytes s.trace ++ [0x30#8, status]

/-- R157 (the spec's decision D16): while the boot is not announced FRAME_POLL and HOST_SERVICE are not taken (log
entry 7 says that the step then changes nothing), and the steps outside the poll loop are. -/
def Obligations.BootGateHoldsThePollLoop : Prop :=
  ∀ (s : State) (a : Action) (ag : List Action), s.bootPending = true → s.agenda = a :: ag →
    ((∃ l, a = .framePoll l) ∨ a = .hostService → step s = .next { s with agenda := ag }) ∧
    (∀ now, a = .sample now → step s = .next (sample now { s with agenda := ag })) ∧
    (∀ x y st, a = .mouseLoad x y st → step s = .next (mouseLoad x y st { s with agenda := ag })) ∧
    (a = .rxError → step s = .next (rxError { s with agenda := ag }))

/-- R157 (D16): while the boot is not announced, no step but BOOT_ANNOUNCE puts a byte on the transmit stream; the
gate opens with the Booted indication and with nothing else. -/
def Obligations.BootedIndicationComesFirst : Prop :=
  ∀ s t : State, s.bootPending = true → step s = .next t →
    (t.bootPending = true ∧ txBytes t.trace = txBytes s.trace) ∨
    (nextAction s = .bootAnnounce ∧ t.bootPending = false ∧
      t.trace = s.trace ++ [.tx 0x30#8, .tx s.bootStatus])

/-- R34 (D29): received bytes wait in the order of arrival. -/
def Obligations.ReceivedBytesQueueInOrder : Prop :=
  ∀ (s : State) (b : Byte) (ag : List Action), s.agenda = .rxByte b :: ag →
    step s = .next { s with agenda := ag, rx := s.rx ++ [b] }

/-! ## Requests: results, each the whole next state -/

/-- RESET (R160, D23) with the restart of R205 (D13, D16, D19, D20, D29): 'a', flush, then every element of R22 at its
reset value. Everything the host was sent is flushed. -/
def Obligations.ResetConfirmsFlushesRestarts : Prop :=
  ∀ s : State, exec .reset s = .next
    { s with
      mbox := { kbd := .waiting, mouse := .waiting }
      prev := 0b1111#4
      sr := { kbd := 0x0001#16, mouse := 0x0001#16 }
      kstate := .idle
      kq := { k0 := 0#8, k1 := 0#8, k2 := 0#8 }
      acc := { x := 0#16, y := 0#16, status := 0#8 }
      session := 0#8
      bootPending := true
      bootStatus := Config.bootStatus s.draws
      rx := []
      trace := s.trace ++ [.tx 0x61#8, .flush, .restart]
      wire := s.wire ++ s.unflushed ++ [0x61#8]
      unflushed := []
      draws := s.draws + 1 }

/-- PS2DATA (R161, D28): the seven bytes of R71 in order; the queue is cleared only with `CLEAR_ON_READ` (R131, D7);
nothing else changes. -/
def Obligations.Ps2dataSendsSevenBytes : Prop :=
  ∀ s : State, exec .ps2data s = .next
    { s with
      kq := if s.params.options.clearOnRead then { k0 := 0#8, k1 := 0#8, k2 := 0#8 } else s.kq
      trace := s.trace ++
        [.tx 0x62#8, .tx s.kq.k0, .tx s.kq.k1, .tx s.kq.k2, .tx (reportStatus s.acc),
          .tx (clampedMagnitude s.acc.x), .tx (clampedMagnitude s.acc.y)]
      unflushed := s.unflushed ++
        [0x62#8, s.kq.k0, s.kq.k1, s.kq.k2, reportStatus s.acc, clampedMagnitude s.acc.x,
          clampedMagnitude s.acc.y] }

/-- PING (R162): 'j' and nothing else; no state written. -/
def Obligations.PingAnswersWithItsConfirmation : Prop :=
  ∀ s : State, exec .ping s = .next
    { s with trace := s.trace ++ [.tx 0x6A#8], unflushed := s.unflushed ++ [0x6A#8] }

/-- The eight defined requests that are not implemented (R163 to R170): '4' and nothing else; no state written. -/
def Obligations.UnimplementedRequestsAnswerBadCommand : Prop :=
  ∀ (i : Instr) (s : State),
    i ∈ [.ps2led, .lptdata, .lptread, .lptctrl, .lptbufdata, .lptreadpend, .lptsetmode, .bootloader] →
      exec i s = .next
        { s with trace := s.trace ++ [.tx 0x34#8], unflushed := s.unflushed ++ [0x34#8] }

/-- UNRECOGNIZED (R171): every byte outside `0x41..0x4B` selects it, and it sends '4' and nothing else; no state
written. -/
def Obligations.UnrecognizedAnswersBadCommand : Prop :=
  (∀ b : Byte, b < 0x41#8 ∨ 0x4B#8 < b → decodeReq b = .unrecognized b) ∧
  ∀ (b : Byte) (s : State), exec (.unrecognized b) s = .next
    { s with trace := s.trace ++ [.tx 0x34#8], unflushed := s.unflushed ++ [0x34#8] }

/-- BOOT_ANNOUNCE (R156, D16): the two bytes of the Booted indication, and the gate opens. -/
def Obligations.BootAnnounceSendsBooted : Prop :=
  ∀ (s : State) (ag : List Action), s.agenda = .bootAnnounce :: ag → s.bootPending = true →
    step s = .next
      { s with
        agenda := ag
        bootPending := false
        trace := s.trace ++ [.tx 0x30#8, .tx s.bootStatus]
        unflushed := s.unflushed ++ [0x30#8, s.bootStatus] }

/-! ## Requests: the protocol as a whole -/

/-- R172: an enabled HOST_SERVICE step completes, takes exactly one byte, and emits exactly one response: seven bytes
for 'B', else one. Only 'A' goes on to discard what else was received. -/
def Obligations.EveryRequestGetsOneResponse : Prop :=
  ∀ (s : State) (b : Byte), servesNext s b → s.session = 0#8 →
    ∃ t response, step s = .next t ∧ txBytes t.trace = txBytes s.trace ++ response ∧
      response.length = (if b = 0x42#8 then 7 else 1) ∧
      t.rx = (if b = 0x41#8 then [] else s.rx.tail) ∧ t.session = 0#8

/-- Everything a step can output (R70, R73, R173): a listed response to the byte HOST_SERVICE takes, the Booted
indication while it is due, a mouse byte, a restart, or nothing. No message begins with '1', '2' or '3'. -/
def Obligations.EveryStepOutputsAListedMessage : Prop :=
  ∀ s t : State, step s = .next t →
    ∃ new, t.trace = s.trace ++ new ∧
      (new = [] ∨
        (nextAction s = .rxError ∧ new = [.restart]) ∨
        (nextAction s = .framePoll .mouse ∧ ∃ b, new = [.outMouse b]) ∨
        (nextAction s = .bootAnnounce ∧ s.bootPending = true ∧ new = [.tx 0x30#8, .tx s.bootStatus]) ∨
        ∃ b, servesNext s b ∧
          new = (if b = 0x41#8 then [.tx 0x61#8, .flush, .restart]
            else if b = 0x42#8 then
              [.tx 0x62#8, .tx s.kq.k0, .tx s.kq.k1, .tx s.kq.k2, .tx (reportStatus s.acc),
                .tx (clampedMagnitude s.acc.x), .tx (clampedMagnitude s.acc.y)]
            else if b = 0x4A#8 then [.tx 0x6A#8]
            else [.tx 0x34#8]))

/-- R206: a step restarts the device exactly where it serves the RESET request or takes a transport error. -/
def Obligations.OnlyResetAndTransportErrorRestart : Prop :=
  ∀ s t : State, step s = .next t →
    (restartedBetween s t ↔ servesNext s 0x41#8 ∨ nextAction s = .rxError)

/-! ## Restart -/

/-- RX_ERROR (R187, R205; D13, D16, D18 to D20, D29): no byte is emitted and nothing is flushed; every element of R22
takes its reset value; received bytes are discarded; of the unflushed bytes the transport keeps
what log entry 4 says. -/
def Obligations.TransportErrorRestartsSilently : Prop :=
  ∀ (s : State) (ag : List Action), s.agenda = .rxError :: ag →
    step s = .next
      { s with
        agenda := ag
        mbox := { kbd := .waiting, mouse := .waiting }
        prev := 0b1111#4
        sr := { kbd := 0x0001#16, mouse := 0x0001#16 }
        kstate := .idle
        kq := { k0 := 0#8, k1 := 0#8, k2 := 0#8 }
        acc := { x := 0#16, y := 0#16, status := 0#8 }
        session := 0#8
        bootPending := true
        bootStatus := Config.bootStatus s.draws
        rx := []
        trace := s.trace ++ [.restart]
        unflushed := if s.params.txLoss then survivors (Config.txSurvives s.draws) 0 s.unflushed else s.unflushed
        draws := s.draws + 1 }

/-- R33, R207 (D18): an error restart loses nothing that was flushed, keeps the order of the unflushed bytes it keeps,
and loses none without `TX_LOSS_ON_ERROR_RESTART`. -/
def Obligations.ErrorRestartLosesOnlyUnflushedBytes : Prop :=
  ∀ s t : State, nextAction s = .rxError → step s = .next t →
    t.wire = s.wire ∧ t.unflushed.Sublist s.unflushed ∧ (s.params.txLoss = false → t.unflushed = s.unflushed)

/-- The state at power-on: the reset column of R22, with no trace event (R208; D13, D16, D19, D20), the options at
their defaults (R10), and a Booted status byte with bit 7 set (R11). The empty wire, agenda and receive stream and the
draw count are the model's (log entries 1, 4, 5 and 6). -/
def Obligations.PowerOnIsTheResetColumn : Prop :=
  State.reset.mbox = { kbd := .waiting, mouse := .waiting } ∧ State.reset.prev = 0b1111#4 ∧
  State.reset.sr = { kbd := 0x0001#16, mouse := 0x0001#16 } ∧ State.reset.kstate = .idle ∧
  State.reset.kq = { k0 := 0#8, k1 := 0#8, k2 := 0#8 } ∧
  State.reset.acc = { x := 0#16, y := 0#16, status := 0#8 } ∧ State.reset.session = 0#8 ∧
  State.reset.bootPending = true ∧ State.reset.bootStatus.getLsbD 7 = true ∧ State.reset.rx = [] ∧
  State.reset.trace = [] ∧ State.reset.wire = [] ∧ State.reset.unflushed = [] ∧
  State.reset.params.options = { parityCheck := false, fixExtRelease := false, clearOnRead := false } ∧
  State.reset.agenda = []

/-! ## Invariants -/

/-- The state at power-on has both invariants. -/
def Obligations.PowerOnHasTheInvariants : Prop :=
  State.reset.Inv ∧ State.reset.Delivery

/-- Every step keeps the invariant (R9, R11, R25, R26, R29, R134), from any state that has it. -/
def Obligations.EveryStepKeepsTheInvariant : Prop :=
  ∀ s t : State, s.Inv → step s = .next t → t.Inv

/-- Every step keeps what the transport owes the host (R33): emitted bytes in order, all of them where the transport
loses none. -/
def Obligations.EveryStepKeepsDelivery : Prop :=
  ∀ s t : State, s.Delivery → step s = .next t → t.Delivery

/-- R185, with the session count 0 that R29 says every reachable state has (D22): from a state that has the invariant no run of any length, under any agenda and any free choice,
stops. -/
def Obligations.NoRunStops : Prop :=
  ∀ (n : Nat) (s : State), s.Inv → ∃ t, runSteps n s = .next t ∧ t.Inv

/-- R32 (D1): no step writes a parameter. -/
def Obligations.ParametersNeverChange : Prop :=
  ∀ s t : State, step s = .next t → t.params = s.params

/-! ## Line Edge Sampler -/

/-- SAMPLE (R91, R36; D21, D32, D33): each mailbox takes its data level on its own falling clock edge and is
otherwise as it was; the snapshot is always written; nothing else changes, and there is no gate (R157). -/
def Obligations.SampleRecordsFallingEdges : Prop :=
  ∀ (s : State) (now : Wires) (ag : List Action), s.agenda = .sample now :: ag →
    step s = .next
      { s with
        agenda := ag
        prev := now
        mbox :=
          { kbd :=
              if s.prev.getLsbD 0 = true ∧ now.getLsbD 0 = false then
                if now.getLsbD 1 then .high else .low
              else s.mbox.kbd
            mouse :=
              if s.prev.getLsbD 2 = true ∧ now.getLsbD 2 = false then
                if now.getLsbD 3 then .high else .low
              else s.mbox.mouse } }

/-- R92: the sampler writes nothing but the snapshot and the mailboxes, and what it writes depends on nothing else. -/
def Obligations.SampleTouchesNothingElse : Prop :=
  ∀ (s u : State) (now : Wires),
    { sample now s with mbox := s.mbox, prev := s.prev } = s ∧
    (s.mbox = u.mbox → s.prev = u.prev →
      (sample now s).mbox = (sample now u).mbox ∧ (sample now s).prev = (sample now u).prev)

/-- R93: a falling edge overwrites what its mailbox holds, and no trace of the earlier value is left. -/
def Obligations.OverwrittenBitIsLost : Prop :=
  ∀ (s : State) (l : Line) (now : Wires) (v : BitState) (ag : List Action),
    s.agenda = .sample now :: ag → clkFalls l s.prev now = true →
      step { s with mbox := s.mbox.set l v } = step s

/-! ## Frame Decoder -/

/-- FRAME_POLL with an empty mailbox completes with no state change (R64, R94). -/
def Obligations.EmptyMailboxPollChangesNothing : Prop :=
  ∀ (s : State) (l : Line) (ag : List Action), s.agenda = .framePoll l :: ag → s.mbox.get l = .waiting →
    step s = .next { s with agenda := ag }

/-- R95: the shift moves the register up one bit, puts the sampled bit below, and is truncated to 16 bits, which
discards nothing from a register that R25 allows. -/
def Obligations.ShiftAppendsTheBit : Prop :=
  ∀ (r : Half) (v : BitState) (bit : Bool), v.bit = some bit →
    ((shiftIn r bit).toNat = (2 * r.toNat + (if v = .high then 1 else 0)) % 65536) ∧
    (r ≤ 0x07FF#16 → (shiftIn r bit).toNat = 2 * r.toNat + (if v = .high then 1 else 0))

/-- FRAME_POLL that does not complete a frame (R94; completion at bit 11 is the spec's decision D4): the bit is taken
and cleared in the same step (D3), and nothing else changes. -/
def Obligations.IncompleteFrameOnlyShifts : Prop :=
  ∀ (s : State) (l : Line) (bit : Bool) (ag : List Action),
    s.agenda = .framePoll l :: ag → s.bootPending = false → (s.mbox.get l).bit = some bit →
    (shiftIn (s.sr.get l) bit).getLsbD 11 = false →
      step s = .next
        { s with
          agenda := ag
          mbox := s.mbox.set l .waiting
          sr := s.sr.set l (shiftIn (s.sr.get l) bit) }

/-- R189: the discard branch of R94 (wrong start or stop bit, or even parity where `PARITY_CHECK` asks): the register
is re-seeded, the mailbox is Waiting, and nothing else changes. -/
def Obligations.MalformedFrameIsDiscarded : Prop :=
  ∀ (s : State) (l : Line) (bit : Bool) (ag : List Action),
    s.agenda = .framePoll l :: ag → s.bootPending = false → (s.mbox.get l).bit = some bit →
    (shiftIn (s.sr.get l) bit).getLsbD 11 = true →
    ((shiftIn (s.sr.get l) bit).getLsbD 10 = true ∨ (shiftIn (s.sr.get l) bit).getLsbD 0 = false ∨
      (s.params.options.parityCheck = true ∧ parityOk (shiftIn (s.sr.get l) bit) = false)) →
      step s = .next
        { s with agenda := ag, mbox := s.mbox.set l .waiting, sr := s.sr.set l 0x0001#16 }

/-- R94 with R99 (D24) and R100 (D14): a valid frame re-seeds the register, empties the mailbox and delivers its byte
in the same step, to the translator from the KBD line, to the mouse-byte port from the MOUSE line. -/
def Obligations.ValidFrameIsDelivered : Prop :=
  ∀ (s : State) (l : Line) (bit : Bool) (ag : List Action),
    s.agenda = .framePoll l :: ag → s.bootPending = false → (s.mbox.get l).bit = some bit →
    (shiftIn (s.sr.get l) bit).getLsbD 11 = true → (shiftIn (s.sr.get l) bit).getLsbD 10 = false →
    (shiftIn (s.sr.get l) bit).getLsbD 0 = true →
    (s.params.options.parityCheck = true → parityOk (shiftIn (s.sr.get l) bit) = true) →
      step s = .next
        (let u := { s with agenda := ag, mbox := s.mbox.set l .waiting, sr := s.sr.set l 0x0001#16 }
         match l with
         | .kbd => translateByte (frameByte (shiftIn (s.sr.get l) bit)) u
         | .mouse => { u with trace := u.trace ++ [.outMouse (frameByte (shiftIn (s.sr.get l) bit))] })

/-- R97: bit i of the byte is bit 9-i of the register. -/
def Obligations.FrameByteReversesTheRegister : Prop :=
  ∀ (r : Half) (i : Nat), i < 8 → (frameByte r).getLsbD i = r.getLsbD (9 - i)

/-- The frame of FRAME_POLL (R41, R94, R100): a KBD poll writes only the keyboard's mailbox and register, the
translator state and the queue; a MOUSE poll only the mouse's mailbox and register and its port. -/
def Obligations.FramePollWritesItsOwnLine : Prop :=
  ∀ s : State,
    { framePoll .kbd s with mbox := s.mbox, sr := s.sr, kstate := s.kstate, kq := s.kq } = s ∧
    (framePoll .kbd s).mbox.mouse = s.mbox.mouse ∧ (framePoll .kbd s).sr.mouse = s.sr.mouse ∧
    { framePoll .mouse s with mbox := s.mbox, sr := s.sr, trace := s.trace } = s ∧
    (framePoll .mouse s).mbox.kbd = s.mbox.kbd ∧ (framePoll .mouse s).sr.kbd = s.sr.kbd

/-- The decoder from wires to byte (R51, R76, R91, R94 to R98, in the notation of R81): eleven bits clocked in on a
line whose register is at its seed complete one frame. Where start, stop and (if checked) parity are right its byte
is delivered, and where they are not nothing is; either way the register is back at its seed. -/
def Obligations.ElevenBitsMakeOneFrame : Prop :=
  ∀ (s : State) (l : Line) (start : Bool) (d : Byte) (parity stop : Bool) (ag : List Action),
    s.bootPending = false → s.sr.get l = 0x0001#16 →
    s.agenda = frameActions l s.prev start d parity stop ++ ag →
      runSteps frameSteps s = .next
        (let u := { s with
            agenda := ag
            prev := setWires l stop true s.prev
            mbox := s.mbox.set l .waiting }
         if frameAccepted s.params.options.parityCheck start d parity stop then deliver l d u else u)

/-- R101 and R212 for offset 1: once a bit has been lost, so that a frame begins with ten bits already taken, no
number of well-formed frames on that line is ever delivered, and the slip persists. -/
def Obligations.OneBitSlipDiscardsEveryLaterFrame : Prop :=
  ∀ (frames : List (Byte × Bool)) (s : State) (l : Line) (ag : List Action),
    s.bootPending = false → 0x0400#16 ≤ s.sr.get l → s.sr.get l ≤ 0x07FF#16 →
    s.agenda = (frames.flatMap fun f => frameActions l s.prev false f.1 f.2 true) ++ ag →
      ∃ t, runSteps (frameSteps * frames.length) s = .next t ∧
        t.kq = s.kq ∧ t.kstate = s.kstate ∧ t.trace = s.trace ∧ t.agenda = ag ∧
        0x0400#16 ≤ t.sr.get l ∧ t.sr.get l ≤ 0x07FF#16

/-! ## Scan-Code Translator -/

/-- R110: the base mapping, and that a byte at or below the threshold keeps its numeric value as its code, the
threshold being at most `0x7F` (R9). -/
def Obligations.BaseMapPassesThrough : Prop :=
  ∀ (c : Config.ScanConsts) (b : Byte),
    (b ≤ c.passMax → ∃ k, baseMap c b = some k ∧ (c.valid = true → k.toNat = b.toNat)) ∧
    (c.passMax < b → b = c.excByte → baseMap c b = some c.excCode) ∧
    (c.passMax < b → b ≠ c.excByte → baseMap c b = none)

/-- R112: emitting a mapped code pushes the code with the up/down flag OR-ed into its high bit; so the event holds the
code in bits 6:0 and the flag in bit 7 (R75). -/
def Obligations.KeyEventPacksCodeAndFlag : Prop :=
  ∀ (k : Code) (up : Bool),
    (∀ s : State, emitMapped (some k) up s = push (k.setWidth 8 ||| if up then 0x80#8 else 0x00#8) s) ∧
    (keyEvent k up).setWidth 7 = k ∧ (keyEvent k up).getLsbD 7 = up

/-- R113: TRANSLATE in Idle. -/
def Obligations.TranslateInIdle : Prop :=
  ∀ (s : State) (b : Byte), s.kstate = .idle →
    translateByte b s =
      if b = s.params.scan.extPrefix then { s with kstate := .extended }
      else if b = s.params.scan.relPrefix then { s with kstate := .release }
      else
        { s with
          kq := match baseMap s.params.scan b with
            | some k => s.kq.push (keyEvent k false)
            | none => s.kq
          kstate := .idle }

/-- R114: TRANSLATE in Extended; prefixes are not special here. -/
def Obligations.TranslateInExtended : Prop :=
  ∀ (s : State) (b : Byte), s.kstate = .extended →
    translateByte b s =
      { s with
        kq := match extMap s.params.scan b with
          | some k => s.kq.push (keyEvent k false)
          | none => s.kq
        kstate := .idle }

/-- R115 (the spec's decisions D6 and D25): TRANSLATE in Release, the reference behaviour and the repaired one. -/
def Obligations.TranslateInRelease : Prop :=
  ∀ (s : State) (b : Byte), s.kstate = .release →
    translateByte b s =
      if b = s.params.scan.extPrefix then
        { s with kstate := if s.params.options.fixExtRelease then .extendedRelease else .extended }
      else
        { s with
          kq := match baseMap s.params.scan b with
            | some k => s.kq.push (keyEvent k true)
            | none => s.kq
          kstate := .idle }

/-- R116 (the spec's decision D31): TRANSLATE in ExtendedRelease. -/
def Obligations.TranslateInExtendedRelease : Prop :=
  ∀ (s : State) (b : Byte), s.kstate = .extendedRelease →
    translateByte b s =
      { s with
        kq := match extMap s.params.scan b with
          | some k => s.kq.push (keyEvent k true)
          | none => s.kq
        kstate := .idle }

/-- R118 and R216: what the prefix sequences do from Idle, for constants that meet R9. Without `FIX_EXT_RELEASE` the
release of an extended key is a second key-down; with it, a key-up. -/
def Obligations.PrefixSequencesFromIdle : Prop :=
  ∀ (s : State) (x : Byte), s.kstate = .idle → s.params.scan.valid = true →
    (x ≠ s.params.scan.extPrefix →
      translateByte x (translateByte s.params.scan.relPrefix s) = emitMapped (baseMap s.params.scan x) true s) ∧
    translateByte x (translateByte s.params.scan.extPrefix s) = emitMapped (extMap s.params.scan x) false s ∧
    translateByte x (translateByte s.params.scan.extPrefix (translateByte s.params.scan.relPrefix s)) =
      emitMapped (extMap s.params.scan x) s.params.options.fixExtRelease s ∧
    translateByte x (translateByte s.params.scan.relPrefix (translateByte s.params.scan.extPrefix s)) =
      translateByte x (emitMapped (extMap s.params.scan s.params.scan.relPrefix) false s) ∧
    translateByte x (translateByte s.params.scan.extPrefix (translateByte s.params.scan.extPrefix s)) =
      translateByte x (emitMapped (extMap s.params.scan s.params.scan.extPrefix) false s)

/-! ## Key Event Queue -/

/-- R130: PUSH writes the first empty slot and no other; a full queue drops the event. -/
def Obligations.PushFillsTheFirstEmptySlot : Prop :=
  ∀ (s : State) (e : Byte),
    (s.kq.k0 = 0#8 → push e s = { s with kq := { s.kq with k0 := e } }) ∧
    (s.kq.k0 ≠ 0#8 → s.kq.k1 = 0#8 → push e s = { s with kq := { s.kq with k1 := e } }) ∧
    (s.kq.k0 ≠ 0#8 → s.kq.k1 ≠ 0#8 → s.kq.k2 = 0#8 → push e s = { s with kq := { s.kq with k2 := e } }) ∧
    (s.kq.k0 ≠ 0#8 → s.kq.k1 ≠ 0#8 → s.kq.k2 ≠ 0#8 → push e s = s)

/-- R133: PUSH of the empty value changes nothing. -/
def Obligations.PushOfZeroChangesNothing : Prop :=
  ∀ s : State, push 0x00#8 s = s

/-- R135: four pushes into an empty queue keep the first three events and drop the fourth. -/
def Obligations.FourPushesKeepTheFirstThree : Prop :=
  ∀ (s : State) (e1 e2 e3 e4 : Byte), s.kq = { k0 := 0#8, k1 := 0#8, k2 := 0#8 } →
    e1 ≠ 0#8 → e2 ≠ 0#8 → e3 ≠ 0#8 → e4 ≠ 0#8 →
      push e4 (push e3 (push e2 (push e1 s))) = { s with kq := { k0 := e1, k1 := e2, k2 := e3 } }

/-- R132, R213: without `CLEAR_ON_READ` a full queue holds its three events through every step but a restart. -/
def Obligations.FullQueueStaysUntilRestart : Prop :=
  ∀ s t : State, s.params.options.clearOnRead = false →
    s.kq.k0 ≠ 0#8 → s.kq.k1 ≠ 0#8 → s.kq.k2 ≠ 0#8 → step s = .next t →
      t.kq = s.kq ∨ restartedBetween s t

/-! ## Mouse -/

/-- R37 (D13): a mouse load sets the three accumulator elements in one step and nothing else, gated by nothing. -/
def Obligations.MouseLoadSetsTheAccumulator : Prop :=
  ∀ (s : State) (x y : Half) (st : Byte) (ag : List Action), s.agenda = .mouseLoad x y st :: ag →
    step s = .next { s with agenda := ag, acc := { x := x, y := y, status := st } }

/-- R28, R147, R217 (D13): no step changes the accumulator but a mouse load and a restart; a report does not. -/
def Obligations.AccumulatorHasOneWriter : Prop :=
  ∀ s t : State, step s = .next t →
    t.acc = s.acc ∨ restartedBetween s t ∨
    ∃ x y st, nextAction s = .mouseLoad x y st ∧ t.acc = { x := x, y := y, status := st }

/-- R143, R144, R146 (bit positions and recomputed signs by the spec's decisions D11 and D12): the encoded report bit
by bit, over the whole range of both displacements. -/
def Obligations.ReportClampsAndFlags : Prop :=
  ∀ a : MouseAcc, ∃ st mx my, encodeReport a = [st, mx, my] ∧
    mx.toNat = min a.x.toInt.natAbs 255 ∧ my.toNat = min a.y.toInt.natAbs 255 ∧
    (∀ i, i < 4 → st.getLsbD i = a.status.getLsbD i) ∧
    st.getLsbD 4 = decide (a.x.toInt < 0) ∧ st.getLsbD 5 = decide (a.y.toInt < 0) ∧
    st.getLsbD 6 = (a.status.getLsbD 6 || decide (255 < a.x.toInt.natAbs)) ∧
    st.getLsbD 7 = (a.status.getLsbD 7 || decide (255 < a.y.toInt.natAbs))

/-- R145: the sign bit of an axis is 1 exactly when its accumulated value is negative. -/
def Obligations.SignBitMarksNegativeValues : Prop :=
  ∀ a : MouseAcc,
    (reportStatus a &&& Config.signX ≠ 0#8 ↔ a.x.toInt < 0) ∧
    (reportStatus a &&& Config.signY ≠ 0#8 ↔ a.y.toInt < 0)

/-- R148: the source's three examples, with a zero status byte and any y. -/
def Obligations.SourceMouseExamples : Prop :=
  ∀ y : Half,
    (reportStatus { x := 300#16, y := y, status := 0x00#8 } &&& Config.ovfX ≠ 0#8 ∧
      clampedMagnitude 300#16 = 255#8) ∧
    (reportStatus { x := -300#16, y := y, status := 0x00#8 } &&& Config.ovfX ≠ 0#8 ∧
      reportStatus { x := -300#16, y := y, status := 0x00#8 } &&& Config.signX ≠ 0#8 ∧
      clampedMagnitude (-300#16) = 255#8) ∧
    (reportStatus { x := 0#16, y := y, status := 0x00#8 } &&& Config.signX = 0#8 ∧
      reportStatus { x := 0#16, y := y, status := 0x00#8 } &&& Config.ovfX = 0#8 ∧
      clampedMagnitude 0#16 = 0#8)
end

