-- ==== Sys2Proof/Laws/Decode.lean ====
section
/-!
SUPPORT. What the decoder and the encoder say of one byte: one lemma for each, cited in place of unfolding them.
-/

namespace Sys2Proof

/-- What a byte decodes to: the row whose code it is, or the catch-all for a byte outside the codes (R68). -/
theorem decodeReq_cases (b : Byte) :
    (b = encodeByte (decodeReq b) ∧ isRequestCode b = true) ∨
      (decodeReq b = .unrecognized b ∧ isRequestCode b = false) := by
  revert b; decide

theorem decodeReq_of_not_code {b : Byte} (h : isRequestCode b = false) : decodeReq b = .unrecognized b := by
  rcases decodeReq_cases b with ⟨_, hc⟩ | ⟨hd, _⟩
  · rw [h] at hc; cases hc
  · exact hd

/-- Which bytes are request codes, as a range (R67). -/
theorem isRequestCode_false_iff (b : Byte) : isRequestCode b = false ↔ b < 0x41#8 ∨ 0x4B#8 < b := by
  revert b; decide

@[simp] theorem decode_nil : decode [] = .error .noByte := rfl

@[simp] theorem decode_cons (b : Byte) (rest : List Byte) : decode (b :: rest) = .ok (decodeReq b, rest) := rfl

/-- What `decode` can answer: nothing arrived, or the first byte decoded. -/
theorem decode_ok {bs rest : List Byte} {i : Instr} (h : decode bs = .ok (i, rest)) :
    ∃ b, bs = b :: rest ∧ i = decodeReq b := by
  cases bs with
  | nil => cases h
  | cons b bs =>
    injection h with h
    injection h with hi hr
    exact ⟨b, by rw [hr], hi.symm⟩

end Sys2Proof
end

