-- ==== Sys2Proof/Laws/State.lean ====
section
/-!
SUPPORT. What each update of the state leaves in each field: one lemma per field per update, each true by unfolding
the update once, so that no later proof unfolds a record update.
-/

namespace Sys2Proof.Machine

@[simp] theorem PerLine.get_set {α : Type} (p : PerLine α) (l : Line) (v : α) : (p.set l v).get l = v := by
  cases l <;> rfl

theorem PerLine.get_set_of_ne {α : Type} (p : PerLine α) {l m : Line} (h : m ≠ l) (v : α) :
    (p.set l v).get m = p.get m := by
  cases l <;> cases m <;> first | rfl | exact absurd rfl h

@[simp] theorem PerLine.set_get {α : Type} (p : PerLine α) (l : Line) : p.set l (p.get l) = p := by
  cases l <;> rfl

@[simp] theorem PerLine.set_set {α : Type} (p : PerLine α) (l : Line) (v w : α) :
    (p.set l v).set l w = p.set l w := by
  cases l <;> rfl

/-! ### emits -/

@[simp] theorem emits_mbox (bs : List Byte) (s : State) : (emits bs s).mbox = s.mbox := rfl
@[simp] theorem emits_prev (bs : List Byte) (s : State) : (emits bs s).prev = s.prev := rfl
@[simp] theorem emits_sr (bs : List Byte) (s : State) : (emits bs s).sr = s.sr := rfl
@[simp] theorem emits_kstate (bs : List Byte) (s : State) : (emits bs s).kstate = s.kstate := rfl
@[simp] theorem emits_kq (bs : List Byte) (s : State) : (emits bs s).kq = s.kq := rfl
@[simp] theorem emits_acc (bs : List Byte) (s : State) : (emits bs s).acc = s.acc := rfl
@[simp] theorem emits_session (bs : List Byte) (s : State) : (emits bs s).session = s.session := rfl
@[simp] theorem emits_bootPending (bs : List Byte) (s : State) : (emits bs s).bootPending = s.bootPending := rfl
@[simp] theorem emits_bootStatus (bs : List Byte) (s : State) : (emits bs s).bootStatus = s.bootStatus := rfl
@[simp] theorem emits_rx (bs : List Byte) (s : State) : (emits bs s).rx = s.rx := rfl
@[simp] theorem emits_trace (bs : List Byte) (s : State) : (emits bs s).trace = s.trace ++ bs.map .tx := rfl
@[simp] theorem emits_wire (bs : List Byte) (s : State) : (emits bs s).wire = s.wire := rfl
@[simp] theorem emits_unflushed (bs : List Byte) (s : State) : (emits bs s).unflushed = s.unflushed ++ bs := rfl
@[simp] theorem emits_params (bs : List Byte) (s : State) : (emits bs s).params = s.params := rfl
@[simp] theorem emits_agenda (bs : List Byte) (s : State) : (emits bs s).agenda = s.agenda := rfl
@[simp] theorem emits_owed (bs : List Byte) (s : State) : (emits bs s).owed = s.owed := rfl
@[simp] theorem emits_patience (bs : List Byte) (s : State) : (emits bs s).patience = s.patience := rfl
@[simp] theorem emits_draws (bs : List Byte) (s : State) : (emits bs s).draws = s.draws := rfl

/-! ### emit -/

@[simp] theorem emit_mbox (b : Byte) (s : State) : (emit b s).mbox = s.mbox := rfl
@[simp] theorem emit_prev (b : Byte) (s : State) : (emit b s).prev = s.prev := rfl
@[simp] theorem emit_sr (b : Byte) (s : State) : (emit b s).sr = s.sr := rfl
@[simp] theorem emit_kstate (b : Byte) (s : State) : (emit b s).kstate = s.kstate := rfl
@[simp] theorem emit_kq (b : Byte) (s : State) : (emit b s).kq = s.kq := rfl
@[simp] theorem emit_acc (b : Byte) (s : State) : (emit b s).acc = s.acc := rfl
@[simp] theorem emit_session (b : Byte) (s : State) : (emit b s).session = s.session := rfl
@[simp] theorem emit_bootPending (b : Byte) (s : State) : (emit b s).bootPending = s.bootPending := rfl
@[simp] theorem emit_bootStatus (b : Byte) (s : State) : (emit b s).bootStatus = s.bootStatus := rfl
@[simp] theorem emit_rx (b : Byte) (s : State) : (emit b s).rx = s.rx := rfl
@[simp] theorem emit_trace (b : Byte) (s : State) : (emit b s).trace = s.trace ++ [.tx b] := rfl
@[simp] theorem emit_wire (b : Byte) (s : State) : (emit b s).wire = s.wire := rfl
@[simp] theorem emit_unflushed (b : Byte) (s : State) : (emit b s).unflushed = s.unflushed ++ [b] := rfl
@[simp] theorem emit_params (b : Byte) (s : State) : (emit b s).params = s.params := rfl
@[simp] theorem emit_agenda (b : Byte) (s : State) : (emit b s).agenda = s.agenda := rfl
@[simp] theorem emit_owed (b : Byte) (s : State) : (emit b s).owed = s.owed := rfl
@[simp] theorem emit_patience (b : Byte) (s : State) : (emit b s).patience = s.patience := rfl
@[simp] theorem emit_draws (b : Byte) (s : State) : (emit b s).draws = s.draws := rfl

/-! ### flush -/

@[simp] theorem flush_mbox (s : State) : (flush s).mbox = s.mbox := rfl
@[simp] theorem flush_prev (s : State) : (flush s).prev = s.prev := rfl
@[simp] theorem flush_sr (s : State) : (flush s).sr = s.sr := rfl
@[simp] theorem flush_kstate (s : State) : (flush s).kstate = s.kstate := rfl
@[simp] theorem flush_kq (s : State) : (flush s).kq = s.kq := rfl
@[simp] theorem flush_acc (s : State) : (flush s).acc = s.acc := rfl
@[simp] theorem flush_session (s : State) : (flush s).session = s.session := rfl
@[simp] theorem flush_bootPending (s : State) : (flush s).bootPending = s.bootPending := rfl
@[simp] theorem flush_bootStatus (s : State) : (flush s).bootStatus = s.bootStatus := rfl
@[simp] theorem flush_rx (s : State) : (flush s).rx = s.rx := rfl
@[simp] theorem flush_trace (s : State) : (flush s).trace = s.trace ++ [.flush] := rfl
@[simp] theorem flush_wire (s : State) : (flush s).wire = s.wire ++ s.unflushed := rfl
@[simp] theorem flush_unflushed (s : State) : (flush s).unflushed = [] := rfl
@[simp] theorem flush_params (s : State) : (flush s).params = s.params := rfl
@[simp] theorem flush_agenda (s : State) : (flush s).agenda = s.agenda := rfl
@[simp] theorem flush_owed (s : State) : (flush s).owed = s.owed := rfl
@[simp] theorem flush_patience (s : State) : (flush s).patience = s.patience := rfl
@[simp] theorem flush_draws (s : State) : (flush s).draws = s.draws := rfl

/-! ### outMouse -/

@[simp] theorem outMouse_mbox (b : Byte) (s : State) : (outMouse b s).mbox = s.mbox := rfl
@[simp] theorem outMouse_prev (b : Byte) (s : State) : (outMouse b s).prev = s.prev := rfl
@[simp] theorem outMouse_sr (b : Byte) (s : State) : (outMouse b s).sr = s.sr := rfl
@[simp] theorem outMouse_kstate (b : Byte) (s : State) : (outMouse b s).kstate = s.kstate := rfl
@[simp] theorem outMouse_kq (b : Byte) (s : State) : (outMouse b s).kq = s.kq := rfl
@[simp] theorem outMouse_acc (b : Byte) (s : State) : (outMouse b s).acc = s.acc := rfl
@[simp] theorem outMouse_session (b : Byte) (s : State) : (outMouse b s).session = s.session := rfl
@[simp] theorem outMouse_bootPending (b : Byte) (s : State) : (outMouse b s).bootPending = s.bootPending := rfl
@[simp] theorem outMouse_bootStatus (b : Byte) (s : State) : (outMouse b s).bootStatus = s.bootStatus := rfl
@[simp] theorem outMouse_rx (b : Byte) (s : State) : (outMouse b s).rx = s.rx := rfl
@[simp] theorem outMouse_trace (b : Byte) (s : State) : (outMouse b s).trace = s.trace ++ [.outMouse b] := rfl
@[simp] theorem outMouse_wire (b : Byte) (s : State) : (outMouse b s).wire = s.wire := rfl
@[simp] theorem outMouse_unflushed (b : Byte) (s : State) : (outMouse b s).unflushed = s.unflushed := rfl
@[simp] theorem outMouse_params (b : Byte) (s : State) : (outMouse b s).params = s.params := rfl
@[simp] theorem outMouse_agenda (b : Byte) (s : State) : (outMouse b s).agenda = s.agenda := rfl
@[simp] theorem outMouse_owed (b : Byte) (s : State) : (outMouse b s).owed = s.owed := rfl
@[simp] theorem outMouse_patience (b : Byte) (s : State) : (outMouse b s).patience = s.patience := rfl
@[simp] theorem outMouse_draws (b : Byte) (s : State) : (outMouse b s).draws = s.draws := rfl

/-! ### transportLoss -/

@[simp] theorem transportLoss_mbox (s : State) : (transportLoss s).mbox = s.mbox := rfl
@[simp] theorem transportLoss_prev (s : State) : (transportLoss s).prev = s.prev := rfl
@[simp] theorem transportLoss_sr (s : State) : (transportLoss s).sr = s.sr := rfl
@[simp] theorem transportLoss_kstate (s : State) : (transportLoss s).kstate = s.kstate := rfl
@[simp] theorem transportLoss_kq (s : State) : (transportLoss s).kq = s.kq := rfl
@[simp] theorem transportLoss_acc (s : State) : (transportLoss s).acc = s.acc := rfl
@[simp] theorem transportLoss_session (s : State) : (transportLoss s).session = s.session := rfl
@[simp] theorem transportLoss_bootPending (s : State) : (transportLoss s).bootPending = s.bootPending := rfl
@[simp] theorem transportLoss_bootStatus (s : State) : (transportLoss s).bootStatus = s.bootStatus := rfl
@[simp] theorem transportLoss_rx (s : State) : (transportLoss s).rx = s.rx := rfl
@[simp] theorem transportLoss_trace (s : State) : (transportLoss s).trace = s.trace := rfl
@[simp] theorem transportLoss_wire (s : State) : (transportLoss s).wire = s.wire := rfl
@[simp] theorem transportLoss_unflushed (s : State) :
    (transportLoss s).unflushed =
      (if s.params.txLoss then survivors (Config.txSurvives s.draws) 0 s.unflushed else s.unflushed) := rfl
@[simp] theorem transportLoss_params (s : State) : (transportLoss s).params = s.params := rfl
@[simp] theorem transportLoss_agenda (s : State) : (transportLoss s).agenda = s.agenda := rfl
@[simp] theorem transportLoss_owed (s : State) : (transportLoss s).owed = s.owed := rfl
@[simp] theorem transportLoss_patience (s : State) : (transportLoss s).patience = s.patience := rfl
@[simp] theorem transportLoss_draws (s : State) : (transportLoss s).draws = s.draws := rfl

/-! ### restart -/

@[simp] theorem restart_mbox (s : State) : (restart s).mbox = { kbd := .waiting, mouse := .waiting } := rfl
@[simp] theorem restart_prev (s : State) : (restart s).prev = 0b1111#4 := rfl
@[simp] theorem restart_sr (s : State) : (restart s).sr = { kbd := Config.seed, mouse := Config.seed } := rfl
@[simp] theorem restart_kstate (s : State) : (restart s).kstate = .idle := rfl
@[simp] theorem restart_kq (s : State) : (restart s).kq = { k0 := 0#8, k1 := 0#8, k2 := 0#8 } := rfl
@[simp] theorem restart_acc (s : State) : (restart s).acc = { x := 0#16, y := 0#16, status := 0#8 } := rfl
@[simp] theorem restart_session (s : State) : (restart s).session = 0#8 := rfl
@[simp] theorem restart_bootPending (s : State) : (restart s).bootPending = true := rfl
@[simp] theorem restart_bootStatus (s : State) : (restart s).bootStatus = Config.bootStatus s.draws := rfl
@[simp] theorem restart_rx (s : State) : (restart s).rx = [] := rfl
@[simp] theorem restart_trace (s : State) : (restart s).trace = s.trace ++ [.restart] := rfl
@[simp] theorem restart_wire (s : State) : (restart s).wire = s.wire := rfl
@[simp] theorem restart_unflushed (s : State) : (restart s).unflushed = s.unflushed := rfl
@[simp] theorem restart_params (s : State) : (restart s).params = s.params := rfl
@[simp] theorem restart_agenda (s : State) : (restart s).agenda = s.agenda := rfl
@[simp] theorem restart_owed (s : State) : (restart s).owed = s.owed := rfl
@[simp] theorem restart_patience (s : State) : (restart s).patience = s.patience := rfl
@[simp] theorem restart_draws (s : State) : (restart s).draws = s.draws + 1 := rfl

/-! ### rxError -/

@[simp] theorem rxError_mbox (s : State) : (rxError s).mbox = { kbd := .waiting, mouse := .waiting } := rfl
@[simp] theorem rxError_prev (s : State) : (rxError s).prev = 0b1111#4 := rfl
@[simp] theorem rxError_sr (s : State) : (rxError s).sr = { kbd := Config.seed, mouse := Config.seed } := rfl
@[simp] theorem rxError_kstate (s : State) : (rxError s).kstate = .idle := rfl
@[simp] theorem rxError_kq (s : State) : (rxError s).kq = { k0 := 0#8, k1 := 0#8, k2 := 0#8 } := rfl
@[simp] theorem rxError_acc (s : State) : (rxError s).acc = { x := 0#16, y := 0#16, status := 0#8 } := rfl
@[simp] theorem rxError_session (s : State) : (rxError s).session = 0#8 := rfl
@[simp] theorem rxError_bootPending (s : State) : (rxError s).bootPending = true := rfl
@[simp] theorem rxError_bootStatus (s : State) : (rxError s).bootStatus = Config.bootStatus s.draws := rfl
@[simp] theorem rxError_rx (s : State) : (rxError s).rx = [] := rfl
@[simp] theorem rxError_trace (s : State) : (rxError s).trace = s.trace ++ [.restart] := rfl
@[simp] theorem rxError_wire (s : State) : (rxError s).wire = s.wire := rfl
@[simp] theorem rxError_unflushed (s : State) :
    (rxError s).unflushed =
      (if s.params.txLoss then survivors (Config.txSurvives s.draws) 0 s.unflushed else s.unflushed) := rfl
@[simp] theorem rxError_params (s : State) : (rxError s).params = s.params := rfl
@[simp] theorem rxError_agenda (s : State) : (rxError s).agenda = s.agenda := rfl
@[simp] theorem rxError_owed (s : State) : (rxError s).owed = s.owed := rfl
@[simp] theorem rxError_patience (s : State) : (rxError s).patience = s.patience := rfl
@[simp] theorem rxError_draws (s : State) : (rxError s).draws = s.draws + 1 := rfl

/-! ### push -/

@[simp] theorem push_mbox (e : Byte) (s : State) : (push e s).mbox = s.mbox := rfl
@[simp] theorem push_prev (e : Byte) (s : State) : (push e s).prev = s.prev := rfl
@[simp] theorem push_sr (e : Byte) (s : State) : (push e s).sr = s.sr := rfl
@[simp] theorem push_kstate (e : Byte) (s : State) : (push e s).kstate = s.kstate := rfl
@[simp] theorem push_kq (e : Byte) (s : State) : (push e s).kq = s.kq.push e := rfl
@[simp] theorem push_acc (e : Byte) (s : State) : (push e s).acc = s.acc := rfl
@[simp] theorem push_session (e : Byte) (s : State) : (push e s).session = s.session := rfl
@[simp] theorem push_bootPending (e : Byte) (s : State) : (push e s).bootPending = s.bootPending := rfl
@[simp] theorem push_bootStatus (e : Byte) (s : State) : (push e s).bootStatus = s.bootStatus := rfl
@[simp] theorem push_rx (e : Byte) (s : State) : (push e s).rx = s.rx := rfl
@[simp] theorem push_trace (e : Byte) (s : State) : (push e s).trace = s.trace := rfl
@[simp] theorem push_wire (e : Byte) (s : State) : (push e s).wire = s.wire := rfl
@[simp] theorem push_unflushed (e : Byte) (s : State) : (push e s).unflushed = s.unflushed := rfl
@[simp] theorem push_params (e : Byte) (s : State) : (push e s).params = s.params := rfl
@[simp] theorem push_agenda (e : Byte) (s : State) : (push e s).agenda = s.agenda := rfl
@[simp] theorem push_owed (e : Byte) (s : State) : (push e s).owed = s.owed := rfl
@[simp] theorem push_patience (e : Byte) (s : State) : (push e s).patience = s.patience := rfl
@[simp] theorem push_draws (e : Byte) (s : State) : (push e s).draws = s.draws := rfl

/-! ### collect -/

@[simp] theorem collect_mbox (s : State) : (collect s).mbox = s.mbox := rfl
@[simp] theorem collect_prev (s : State) : (collect s).prev = s.prev := rfl
@[simp] theorem collect_sr (s : State) : (collect s).sr = s.sr := rfl
@[simp] theorem collect_kstate (s : State) : (collect s).kstate = s.kstate := rfl
@[simp] theorem collect_kq (s : State) :
    (collect s).kq = if s.params.options.clearOnRead then { k0 := 0#8, k1 := 0#8, k2 := 0#8 } else s.kq := rfl
@[simp] theorem collect_acc (s : State) : (collect s).acc = s.acc := rfl
@[simp] theorem collect_session (s : State) : (collect s).session = s.session := rfl
@[simp] theorem collect_bootPending (s : State) : (collect s).bootPending = s.bootPending := rfl
@[simp] theorem collect_bootStatus (s : State) : (collect s).bootStatus = s.bootStatus := rfl
@[simp] theorem collect_rx (s : State) : (collect s).rx = s.rx := rfl
@[simp] theorem collect_trace (s : State) : (collect s).trace = s.trace := rfl
@[simp] theorem collect_wire (s : State) : (collect s).wire = s.wire := rfl
@[simp] theorem collect_unflushed (s : State) : (collect s).unflushed = s.unflushed := rfl
@[simp] theorem collect_params (s : State) : (collect s).params = s.params := rfl
@[simp] theorem collect_agenda (s : State) : (collect s).agenda = s.agenda := rfl
@[simp] theorem collect_owed (s : State) : (collect s).owed = s.owed := rfl
@[simp] theorem collect_patience (s : State) : (collect s).patience = s.patience := rfl
@[simp] theorem collect_draws (s : State) : (collect s).draws = s.draws := rfl

/-! ### mouseLoad -/

@[simp] theorem mouseLoad_mbox (x y : Half) (st : Byte) (s : State) : (mouseLoad x y st s).mbox = s.mbox := rfl
@[simp] theorem mouseLoad_prev (x y : Half) (st : Byte) (s : State) : (mouseLoad x y st s).prev = s.prev := rfl
@[simp] theorem mouseLoad_sr (x y : Half) (st : Byte) (s : State) : (mouseLoad x y st s).sr = s.sr := rfl
@[simp] theorem mouseLoad_kstate (x y : Half) (st : Byte) (s : State) : (mouseLoad x y st s).kstate = s.kstate := rfl
@[simp] theorem mouseLoad_kq (x y : Half) (st : Byte) (s : State) : (mouseLoad x y st s).kq = s.kq := rfl
@[simp] theorem mouseLoad_acc (x y : Half) (st : Byte) (s : State) :
    (mouseLoad x y st s).acc = { x := x, y := y, status := st } := rfl
@[simp] theorem mouseLoad_session (x y : Half) (st : Byte) (s : State) :
    (mouseLoad x y st s).session = s.session := rfl
@[simp] theorem mouseLoad_bootPending (x y : Half) (st : Byte) (s : State) :
    (mouseLoad x y st s).bootPending = s.bootPending := rfl
@[simp] theorem mouseLoad_bootStatus (x y : Half) (st : Byte) (s : State) :
    (mouseLoad x y st s).bootStatus = s.bootStatus := rfl
@[simp] theorem mouseLoad_rx (x y : Half) (st : Byte) (s : State) : (mouseLoad x y st s).rx = s.rx := rfl
@[simp] theorem mouseLoad_trace (x y : Half) (st : Byte) (s : State) : (mouseLoad x y st s).trace = s.trace := rfl
@[simp] theorem mouseLoad_wire (x y : Half) (st : Byte) (s : State) : (mouseLoad x y st s).wire = s.wire := rfl
@[simp] theorem mouseLoad_unflushed (x y : Half) (st : Byte) (s : State) :
    (mouseLoad x y st s).unflushed = s.unflushed := rfl
@[simp] theorem mouseLoad_params (x y : Half) (st : Byte) (s : State) : (mouseLoad x y st s).params = s.params := rfl
@[simp] theorem mouseLoad_agenda (x y : Half) (st : Byte) (s : State) : (mouseLoad x y st s).agenda = s.agenda := rfl
@[simp] theorem mouseLoad_owed (x y : Half) (st : Byte) (s : State) : (mouseLoad x y st s).owed = s.owed := rfl
@[simp] theorem mouseLoad_patience (x y : Half) (st : Byte) (s : State) : (mouseLoad x y st s).patience = s.patience := rfl
@[simp] theorem mouseLoad_draws (x y : Half) (st : Byte) (s : State) : (mouseLoad x y st s).draws = s.draws := rfl

/-! ### setKState -/

@[simp] theorem setKState_mbox (k : KState) (s : State) : (setKState k s).mbox = s.mbox := rfl
@[simp] theorem setKState_prev (k : KState) (s : State) : (setKState k s).prev = s.prev := rfl
@[simp] theorem setKState_sr (k : KState) (s : State) : (setKState k s).sr = s.sr := rfl
@[simp] theorem setKState_kstate (k : KState) (s : State) : (setKState k s).kstate = k := rfl
@[simp] theorem setKState_kq (k : KState) (s : State) : (setKState k s).kq = s.kq := rfl
@[simp] theorem setKState_acc (k : KState) (s : State) : (setKState k s).acc = s.acc := rfl
@[simp] theorem setKState_session (k : KState) (s : State) : (setKState k s).session = s.session := rfl
@[simp] theorem setKState_bootPending (k : KState) (s : State) : (setKState k s).bootPending = s.bootPending := rfl
@[simp] theorem setKState_bootStatus (k : KState) (s : State) : (setKState k s).bootStatus = s.bootStatus := rfl
@[simp] theorem setKState_rx (k : KState) (s : State) : (setKState k s).rx = s.rx := rfl
@[simp] theorem setKState_trace (k : KState) (s : State) : (setKState k s).trace = s.trace := rfl
@[simp] theorem setKState_wire (k : KState) (s : State) : (setKState k s).wire = s.wire := rfl
@[simp] theorem setKState_unflushed (k : KState) (s : State) : (setKState k s).unflushed = s.unflushed := rfl
@[simp] theorem setKState_params (k : KState) (s : State) : (setKState k s).params = s.params := rfl
@[simp] theorem setKState_agenda (k : KState) (s : State) : (setKState k s).agenda = s.agenda := rfl
@[simp] theorem setKState_owed (k : KState) (s : State) : (setKState k s).owed = s.owed := rfl
@[simp] theorem setKState_patience (k : KState) (s : State) : (setKState k s).patience = s.patience := rfl
@[simp] theorem setKState_draws (k : KState) (s : State) : (setKState k s).draws = s.draws := rfl

/-! ### takeBit -/

@[simp] theorem takeBit_mbox (l : Line) (r : Half) (s : State) : (takeBit l r s).mbox = s.mbox.set l .waiting := rfl
@[simp] theorem takeBit_prev (l : Line) (r : Half) (s : State) : (takeBit l r s).prev = s.prev := rfl
@[simp] theorem takeBit_sr (l : Line) (r : Half) (s : State) : (takeBit l r s).sr = s.sr.set l r := rfl
@[simp] theorem takeBit_kstate (l : Line) (r : Half) (s : State) : (takeBit l r s).kstate = s.kstate := rfl
@[simp] theorem takeBit_kq (l : Line) (r : Half) (s : State) : (takeBit l r s).kq = s.kq := rfl
@[simp] theorem takeBit_acc (l : Line) (r : Half) (s : State) : (takeBit l r s).acc = s.acc := rfl
@[simp] theorem takeBit_session (l : Line) (r : Half) (s : State) : (takeBit l r s).session = s.session := rfl
@[simp] theorem takeBit_bootPending (l : Line) (r : Half) (s : State) :
    (takeBit l r s).bootPending = s.bootPending := rfl
@[simp] theorem takeBit_bootStatus (l : Line) (r : Half) (s : State) :
    (takeBit l r s).bootStatus = s.bootStatus := rfl
@[simp] theorem takeBit_rx (l : Line) (r : Half) (s : State) : (takeBit l r s).rx = s.rx := rfl
@[simp] theorem takeBit_trace (l : Line) (r : Half) (s : State) : (takeBit l r s).trace = s.trace := rfl
@[simp] theorem takeBit_wire (l : Line) (r : Half) (s : State) : (takeBit l r s).wire = s.wire := rfl
@[simp] theorem takeBit_unflushed (l : Line) (r : Half) (s : State) : (takeBit l r s).unflushed = s.unflushed := rfl
@[simp] theorem takeBit_params (l : Line) (r : Half) (s : State) : (takeBit l r s).params = s.params := rfl
@[simp] theorem takeBit_agenda (l : Line) (r : Half) (s : State) : (takeBit l r s).agenda = s.agenda := rfl
@[simp] theorem takeBit_owed (l : Line) (r : Half) (s : State) : (takeBit l r s).owed = s.owed := rfl
@[simp] theorem takeBit_patience (l : Line) (r : Half) (s : State) : (takeBit l r s).patience = s.patience := rfl
@[simp] theorem takeBit_draws (l : Line) (r : Half) (s : State) : (takeBit l r s).draws = s.draws := rfl

/-! ### sample -/

@[simp] theorem sample_mbox (now : Wires) (s : State) :
    (sample now s).mbox = { kbd := sampledMailbox .kbd now s, mouse := sampledMailbox .mouse now s } := rfl
@[simp] theorem sample_prev (now : Wires) (s : State) : (sample now s).prev = now := rfl
@[simp] theorem sample_sr (now : Wires) (s : State) : (sample now s).sr = s.sr := rfl
@[simp] theorem sample_kstate (now : Wires) (s : State) : (sample now s).kstate = s.kstate := rfl
@[simp] theorem sample_kq (now : Wires) (s : State) : (sample now s).kq = s.kq := rfl
@[simp] theorem sample_acc (now : Wires) (s : State) : (sample now s).acc = s.acc := rfl
@[simp] theorem sample_session (now : Wires) (s : State) : (sample now s).session = s.session := rfl
@[simp] theorem sample_bootPending (now : Wires) (s : State) : (sample now s).bootPending = s.bootPending := rfl
@[simp] theorem sample_bootStatus (now : Wires) (s : State) : (sample now s).bootStatus = s.bootStatus := rfl
@[simp] theorem sample_rx (now : Wires) (s : State) : (sample now s).rx = s.rx := rfl
@[simp] theorem sample_trace (now : Wires) (s : State) : (sample now s).trace = s.trace := rfl
@[simp] theorem sample_wire (now : Wires) (s : State) : (sample now s).wire = s.wire := rfl
@[simp] theorem sample_unflushed (now : Wires) (s : State) : (sample now s).unflushed = s.unflushed := rfl
@[simp] theorem sample_params (now : Wires) (s : State) : (sample now s).params = s.params := rfl
@[simp] theorem sample_agenda (now : Wires) (s : State) : (sample now s).agenda = s.agenda := rfl
@[simp] theorem sample_owed (now : Wires) (s : State) : (sample now s).owed = s.owed := rfl
@[simp] theorem sample_patience (now : Wires) (s : State) : (sample now s).patience = s.patience := rfl
@[simp] theorem sample_draws (now : Wires) (s : State) : (sample now s).draws = s.draws := rfl

/-! ### bootAnnounce -/

@[simp] theorem bootAnnounce_mbox (s : State) : (bootAnnounce s).mbox = s.mbox := rfl
@[simp] theorem bootAnnounce_prev (s : State) : (bootAnnounce s).prev = s.prev := rfl
@[simp] theorem bootAnnounce_sr (s : State) : (bootAnnounce s).sr = s.sr := rfl
@[simp] theorem bootAnnounce_kstate (s : State) : (bootAnnounce s).kstate = s.kstate := rfl
@[simp] theorem bootAnnounce_kq (s : State) : (bootAnnounce s).kq = s.kq := rfl
@[simp] theorem bootAnnounce_acc (s : State) : (bootAnnounce s).acc = s.acc := rfl
@[simp] theorem bootAnnounce_session (s : State) : (bootAnnounce s).session = s.session := rfl
@[simp] theorem bootAnnounce_bootPending (s : State) : (bootAnnounce s).bootPending = false := rfl
@[simp] theorem bootAnnounce_bootStatus (s : State) : (bootAnnounce s).bootStatus = s.bootStatus := rfl
@[simp] theorem bootAnnounce_rx (s : State) : (bootAnnounce s).rx = s.rx := rfl
@[simp] theorem bootAnnounce_trace (s : State) :
    (bootAnnounce s).trace = s.trace ++ [.tx Config.bootedCode, .tx s.bootStatus] := rfl
@[simp] theorem bootAnnounce_wire (s : State) : (bootAnnounce s).wire = s.wire := rfl
@[simp] theorem bootAnnounce_unflushed (s : State) :
    (bootAnnounce s).unflushed = s.unflushed ++ [Config.bootedCode, s.bootStatus] := rfl
@[simp] theorem bootAnnounce_params (s : State) : (bootAnnounce s).params = s.params := rfl
@[simp] theorem bootAnnounce_agenda (s : State) : (bootAnnounce s).agenda = s.agenda := rfl
@[simp] theorem bootAnnounce_owed (s : State) : (bootAnnounce s).owed = s.owed := rfl
@[simp] theorem bootAnnounce_patience (s : State) : (bootAnnounce s).patience = s.patience := rfl
@[simp] theorem bootAnnounce_draws (s : State) : (bootAnnounce s).draws = s.draws := rfl

/-! ### receive -/

@[simp] theorem receive_mbox (b : Byte) (s : State) : (receive b s).mbox = s.mbox := rfl
@[simp] theorem receive_prev (b : Byte) (s : State) : (receive b s).prev = s.prev := rfl
@[simp] theorem receive_sr (b : Byte) (s : State) : (receive b s).sr = s.sr := rfl
@[simp] theorem receive_kstate (b : Byte) (s : State) : (receive b s).kstate = s.kstate := rfl
@[simp] theorem receive_kq (b : Byte) (s : State) : (receive b s).kq = s.kq := rfl
@[simp] theorem receive_acc (b : Byte) (s : State) : (receive b s).acc = s.acc := rfl
@[simp] theorem receive_session (b : Byte) (s : State) : (receive b s).session = s.session := rfl
@[simp] theorem receive_bootPending (b : Byte) (s : State) : (receive b s).bootPending = s.bootPending := rfl
@[simp] theorem receive_bootStatus (b : Byte) (s : State) : (receive b s).bootStatus = s.bootStatus := rfl
@[simp] theorem receive_rx (b : Byte) (s : State) : (receive b s).rx = s.rx ++ [b] := rfl
@[simp] theorem receive_trace (b : Byte) (s : State) : (receive b s).trace = s.trace := rfl
@[simp] theorem receive_wire (b : Byte) (s : State) : (receive b s).wire = s.wire := rfl
@[simp] theorem receive_unflushed (b : Byte) (s : State) : (receive b s).unflushed = s.unflushed := rfl
@[simp] theorem receive_params (b : Byte) (s : State) : (receive b s).params = s.params := rfl
@[simp] theorem receive_agenda (b : Byte) (s : State) : (receive b s).agenda = s.agenda := rfl
@[simp] theorem receive_owed (b : Byte) (s : State) : (receive b s).owed = s.owed := rfl
@[simp] theorem receive_patience (b : Byte) (s : State) : (receive b s).patience = s.patience := rfl
@[simp] theorem receive_draws (b : Byte) (s : State) : (receive b s).draws = s.draws := rfl

end Sys2Proof.Machine
end

