-- ==== Sys2Proof/Laws/Ops.lean ====
section
/-!
SUPPORT. One lemma per shared operation that says once what it can do: the queue's push, the transport's survivors,
the translator and the frame decoder, each with its frame.
-/

namespace Sys2Proof.Machine

/-! ### Transmit stream -/

@[simp] theorem txBytes_append (a b : List TraceEvent) : txBytes (a ++ b) = txBytes a ++ txBytes b := by
  simp [txBytes]

@[simp] theorem txBytes_map_tx (bs : List Byte) : txBytes (bs.map .tx) = bs := by
  induction bs with
  | nil => rfl
  | cons b bs ih => simpa [txBytes, TraceEvent.txByte] using ih

@[simp] theorem txBytes_nil : txBytes [] = [] := rfl
@[simp] theorem txBytes_cons_tx (b : Byte) (es : List TraceEvent) : txBytes (.tx b :: es) = b :: txBytes es := rfl
@[simp] theorem txBytes_cons_flush (es : List TraceEvent) : txBytes (.flush :: es) = txBytes es := rfl
@[simp] theorem txBytes_cons_restart (es : List TraceEvent) : txBytes (.restart :: es) = txBytes es := rfl
@[simp] theorem txBytes_cons_outMouse (b : Byte) (es : List TraceEvent) :
    txBytes (.outMouse b :: es) = txBytes es := rfl

/-- What a transport error leaves is some of the bytes, in their order (R33). -/
theorem survivors_sublist (keep : Nat → Bool) (i : Nat) (bs : List Byte) : (survivors keep i bs).Sublist bs := by
  induction bs generalizing i with
  | nil => exact .slnil
  | cons b bs ih =>
    unfold survivors
    split
    · exact (ih _).cons_cons b
    · exact (ih _).cons b

/-! ### Key Event Queue -/

/-- What a push can do: fill one of the three slots, the ones before it being taken, or drop the event (R130). -/
theorem KeyQueue.push_cases (e : Byte) (q : KeyQueue) :
    (q.k0 = 0#8 ∧ q.push e = { q with k0 := e }) ∨
    (q.k0 ≠ 0#8 ∧ q.k1 = 0#8 ∧ q.push e = { q with k1 := e }) ∨
    (q.k0 ≠ 0#8 ∧ q.k1 ≠ 0#8 ∧ q.k2 = 0#8 ∧ q.push e = { q with k2 := e }) ∨
    (q.k0 ≠ 0#8 ∧ q.k1 ≠ 0#8 ∧ q.k2 ≠ 0#8 ∧ q.push e = q) := by
  by_cases h0 : q.k0 = 0#8
  · exact .inl ⟨h0, by simp [KeyQueue.push, h0]⟩
  by_cases h1 : q.k1 = 0#8
  · exact .inr (.inl ⟨h0, h1, by simp [KeyQueue.push, h0, h1]⟩)
  by_cases h2 : q.k2 = 0#8
  · exact .inr (.inr (.inl ⟨h0, h1, h2, by simp [KeyQueue.push, h0, h1, h2]⟩))
  · exact .inr (.inr (.inr ⟨h0, h1, h2, by simp [KeyQueue.push, h0, h1, h2]⟩))

/-! ### Translator -/

/-- What emitting a mapped code can do: nothing, or one push (R112). -/
theorem emitMapped_cases (k : Option Code) (up : Bool) (s : State) :
    emitMapped k up s = s ∨ ∃ e, emitMapped k up s = push e s := by
  cases k with
  | none => exact .inl rfl
  | some k => exact .inr ⟨_, rfl⟩

/-- What TRANSLATE can do (R113 to R116): go to a state, after at most one push. -/
theorem translateByte_cases (b : Byte) (s : State) :
    ∃ k, translateByte b s = setKState k s ∨ ∃ e, translateByte b s = setKState k (push e s) := by
  have emitted : ∀ m up, ∃ k, setKState .idle (emitMapped m up s) = setKState k s ∨
      ∃ e, setKState .idle (emitMapped m up s) = setKState k (push e s) := by
    intro m up
    rcases emitMapped_cases m up s with h | ⟨e, h⟩
    · exact ⟨.idle, .inl (by rw [h])⟩
    · exact ⟨.idle, .inr ⟨e, by rw [h]⟩⟩
  unfold translateByte
  split
  · unfold translateIdle
    split
    · exact ⟨_, .inl rfl⟩
    · split
      · exact ⟨_, .inl rfl⟩
      · exact emitted _ _
  · exact emitted _ _
  · unfold translateRelease
    split
    · exact ⟨_, .inl rfl⟩
    · exact emitted _ _
  · exact emitted _ _

/-- The frame of TRANSLATE: it writes the queue and its own state, and nothing else (R41). -/
theorem translateByte_frame (b : Byte) (s : State) :
    translateByte b s = { s with kq := (translateByte b s).kq, kstate := (translateByte b s).kstate } := by
  obtain ⟨k, h | ⟨e, h⟩⟩ := translateByte_cases b s <;> rw [h] <;> rfl

/-- TRANSLATE enters ExtendedRelease only with `FIX_EXT_RELEASE` (R26, R115). -/
theorem translateByte_kstate_ne_extendedRelease (b : Byte) (s : State) (h : s.params.options.fixExtRelease = false) :
    (translateByte b s).kstate ≠ .extendedRelease := by
  unfold translateByte
  split
  · unfold translateIdle
    split
    · simp
    · split <;> simp
  · simp [translateExtended]
  · unfold translateRelease
    split <;> simp [h]
  · simp [translateExtendedRelease]

/-! ### Frame Decoder -/

/-- What FRAME_POLL can do (R94): nothing with an empty mailbox; else take the bit and keep shifting, discard the
frame, or deliver its byte. -/
theorem framePoll_cases (l : Line) (s : State) :
    (s.mbox.get l = .waiting ∧ framePoll l s = s) ∨
    ∃ bit, (s.mbox.get l).bit = some bit ∧
      ((frameComplete (shiftIn (s.sr.get l) bit) = false ∧
          framePoll l s = takeBit l (shiftIn (s.sr.get l) bit) s) ∨
        (frameComplete (shiftIn (s.sr.get l) bit) = true ∧
          frameValid s.params.options.parityCheck (shiftIn (s.sr.get l) bit) = false ∧
          framePoll l s = takeBit l Config.seed s) ∨
        (frameComplete (shiftIn (s.sr.get l) bit) = true ∧
          frameValid s.params.options.parityCheck (shiftIn (s.sr.get l) bit) = true ∧
          framePoll l s = deliver l (frameByte (shiftIn (s.sr.get l) bit)) (takeBit l Config.seed s))) := by
  cases hm : s.mbox.get l with
  | waiting => exact .inl ⟨rfl, by simp [framePoll, hm, BitState.bit]⟩
  | low =>
    refine .inr ⟨false, rfl, ?_⟩
    cases hc : frameComplete (shiftIn (s.sr.get l) false) <;>
      cases hv : frameValid s.params.options.parityCheck (shiftIn (s.sr.get l) false) <;>
      simp [framePoll, consumeBit, hm, BitState.bit, hc, hv]
  | high =>
    refine .inr ⟨true, rfl, ?_⟩
    cases hc : frameComplete (shiftIn (s.sr.get l) true) <;>
      cases hv : frameValid s.params.options.parityCheck (shiftIn (s.sr.get l) true) <;>
      simp [framePoll, consumeBit, hm, BitState.bit, hc, hv]

/-- The frame of a KBD poll (R41): the mailboxes, the registers, the translator state and the queue. -/
theorem framePoll_kbd_frame (s : State) :
    framePoll .kbd s =
      { s with
        mbox := (framePoll .kbd s).mbox, sr := (framePoll .kbd s).sr,
        kstate := (framePoll .kbd s).kstate, kq := (framePoll .kbd s).kq } := by
  rcases framePoll_cases .kbd s with ⟨_, h⟩ | ⟨bit, _, ⟨_, h⟩ | ⟨_, _, h⟩ | ⟨_, _, h⟩⟩
  · rw [h]
  · rw [h]; rfl
  · rw [h]; rfl
  · rw [h]
    simp only [deliver]
    generalize frameByte _ = b
    rw [translateByte_frame b (takeBit .kbd Config.seed s)]
    rfl

/-- The frame of a MOUSE poll (R100): the mailboxes, the registers and the mouse-byte port. -/
theorem framePoll_mouse_frame (s : State) :
    framePoll .mouse s =
      { s with
        mbox := (framePoll .mouse s).mbox, sr := (framePoll .mouse s).sr,
        trace := (framePoll .mouse s).trace } := by
  rcases framePoll_cases .mouse s with ⟨_, h⟩ | ⟨bit, _, ⟨_, h⟩ | ⟨_, _, h⟩ | ⟨_, _, h⟩⟩ <;> rw [h] <;> rfl

/-- A register that has not completed a frame keeps its sentinel through a shift (R25, R95). -/
theorem shiftIn_registerBound (r : Half) (bit : Bool) (hlo : 0x0001#16 ≤ r) (hhi : r ≤ 0x07FF#16)
    (hc : frameComplete (shiftIn r bit) = false) :
    0x0001#16 ≤ shiftIn r bit ∧ shiftIn r bit ≤ 0x07FF#16 := by
  have value : (shiftIn r bit).toNat = (2 * r.toNat + bit.toNat) % 65536 := by
    cases bit
    · simp [shiftIn, Nat.shiftLeft_eq]; omega
    · have disjoint : (r <<< 1 ||| 1#16) = r <<< 1 + 1#16 := by
        rw [BitVec.add_eq_or_of_and_eq_zero]
        ext i hi
        by_cases h0 : i = 0 <;> simp [h0]
      simp only [shiftIn, if_true]
      rw [disjoint]
      simp [BitVec.toNat_add, Nat.shiftLeft_eq]; omega
  have := Bool.toNat_le bit
  simp only [frameComplete, Config.completeBit, BitVec.getLsbD, Nat.testBit_eq_decide_div_mod_eq] at hc
  rw [BitVec.le_def] at *
  rw [BitVec.le_def]
  simp at hlo hhi hc ⊢
  omega

/-- What FRAME_POLL leaves alone on either line: everything the session, the host side and the transport hold. -/
theorem framePoll_unchanged (l : Line) (s : State) :
    (framePoll l s).params = s.params ∧ (framePoll l s).acc = s.acc ∧ (framePoll l s).session = s.session ∧
    (framePoll l s).bootPending = s.bootPending ∧ (framePoll l s).bootStatus = s.bootStatus ∧
    (framePoll l s).wire = s.wire ∧ (framePoll l s).unflushed = s.unflushed ∧ (framePoll l s).rx = s.rx := by
  cases l
  · rw [framePoll_kbd_frame]; simp
  · rw [framePoll_mouse_frame]; simp

/-- What FRAME_POLL can output: nothing, or one byte on the mouse-byte port (R35, R102). -/
theorem framePoll_trace (l : Line) (s : State) :
    (framePoll l s).trace = s.trace ∨ (l = .mouse ∧ ∃ b, (framePoll l s).trace = s.trace ++ [.outMouse b]) := by
  cases l
  · left; rw [framePoll_kbd_frame]
  · rcases framePoll_cases .mouse s with ⟨_, h⟩ | ⟨bit, _, ⟨_, h⟩ | ⟨_, _, h⟩ | ⟨_, _, h⟩⟩ <;> rw [h] <;> simp [deliver]

/-- A clock falls where it was high and is low (R91). -/
theorem clkFalls_eq (l : Line) (prev now : Wires) :
    clkFalls l prev now = (clkLevel l prev && !clkLevel l now) := by
  cases l <;> revert prev now <;> decide

/-- Bit 7 of every drawn Booted status byte is 1 (R11). -/
theorem bootStatus_bit7 (n : Nat) : (Config.bootStatus n).getLsbD 7 = true := by
  unfold Config.bootStatus; rw [BitVec.getLsbD_append]; simp

/-- The parameters' scan-code constants meet the constraints of R9, whatever the free value is. -/
theorem scan_valid : Config.scan.valid = true := by
  unfold Config.scan
  split
  · assumption
  · decide

end Sys2Proof.Machine
end

