-- ==== Sys2Proof/Laws/PerInstr.lean ====
section
/-!
SUPPORT. Statements made per instruction: the format of a request (R66, R67).
-/

namespace Sys2Proof.Laws.RequestFormat

/-- A request is one byte (R66), and it is a code of `'A'..'K'` exactly where it is one of the eleven defined
requests (R67). -/
def Statement (i : Instr) : Prop :=
  (encode i).length = 1 ∧
    (i.wellFormed = true → (isRequestCode (encodeByte i) = true ↔ ∀ b, i ≠ .unrecognized b))

theorem reset : Statement .reset :=
  ⟨rfl, fun _ => ⟨fun _ _ h => Instr.noConfusion h, fun _ => rfl⟩⟩

theorem ps2data : Statement .ps2data :=
  ⟨rfl, fun _ => ⟨fun _ _ h => Instr.noConfusion h, fun _ => rfl⟩⟩

theorem ps2led : Statement .ps2led :=
  ⟨rfl, fun _ => ⟨fun _ _ h => Instr.noConfusion h, fun _ => rfl⟩⟩

theorem lptdata : Statement .lptdata :=
  ⟨rfl, fun _ => ⟨fun _ _ h => Instr.noConfusion h, fun _ => rfl⟩⟩

theorem lptread : Statement .lptread :=
  ⟨rfl, fun _ => ⟨fun _ _ h => Instr.noConfusion h, fun _ => rfl⟩⟩

theorem lptctrl : Statement .lptctrl :=
  ⟨rfl, fun _ => ⟨fun _ _ h => Instr.noConfusion h, fun _ => rfl⟩⟩

theorem lptbufdata : Statement .lptbufdata :=
  ⟨rfl, fun _ => ⟨fun _ _ h => Instr.noConfusion h, fun _ => rfl⟩⟩

theorem lptreadpend : Statement .lptreadpend :=
  ⟨rfl, fun _ => ⟨fun _ _ h => Instr.noConfusion h, fun _ => rfl⟩⟩

theorem lptsetmode : Statement .lptsetmode :=
  ⟨rfl, fun _ => ⟨fun _ _ h => Instr.noConfusion h, fun _ => rfl⟩⟩

theorem ping : Statement .ping :=
  ⟨rfl, fun _ => ⟨fun _ _ h => Instr.noConfusion h, fun _ => rfl⟩⟩

theorem bootloader : Statement .bootloader :=
  ⟨rfl, fun _ => ⟨fun _ _ h => Instr.noConfusion h, fun _ => rfl⟩⟩

theorem unrecognized (b : Byte) : Statement (.unrecognized b) := by
  refine ⟨rfl, fun h => ⟨fun hc => ?_, fun hn => absurd rfl (hn b)⟩⟩
  have code : isRequestCode b = true := hc
  simp [Instr.wellFormed, code] at h

end Sys2Proof.Laws.RequestFormat
end

