-- ==== Sys2Proof/Laws/Step.lean ====
section
/-!
SUPPORT. What one step can do, said once: the inversion lemmas of HOST_SERVICE, of an agent's step and of the step.
-/

namespace Sys2Proof.Machine

@[simp] theorem setKState_self (s : State) : setKState s.kstate s = s := rfl

/-- The nine requests that answer bad-command (R163 to R171). -/
def isBadCommand : Instr → Bool
  | .reset => false
  | .ps2data => false
  | .ping => false
  | .ps2led => true
  | .lptdata => true
  | .lptread => true
  | .lptctrl => true
  | .lptbufdata => true
  | .lptreadpend => true
  | .lptsetmode => true
  | .bootloader => true
  | .unrecognized _ => true

/-- What a request does: one of four effects, and it always completes. -/
theorem exec_cases (i : Instr) (s : State) :
    (i = .reset ∧ exec i s = .next (restart (flush (emit Config.confirmReset s)))) ∨
    (i = .ps2data ∧ exec i s = .next (emits (ps2dataResponse s) (collect s))) ∨
    (i = .ping ∧ exec i s = .next (emit Config.confirmPing s)) ∨
    (isBadCommand i = true ∧ exec i s = .next (badCommand s)) := by
  cases i <;> simp [exec, execReset, execPs2data, execPing, execPs2led, execLptdata, execLptread, execLptctrl,
    execLptbufdata, execLptreadpend, execLptsetmode, execBootloader, execUnrecognized, isBadCommand]

/-- What HOST_SERVICE does: nothing where it is not enabled, the refusal of R29, or the request of the next byte. -/
theorem hostService_cases (s : State) :
    ((s.bootPending = true ∨ s.rx = []) ∧ hostService s = .next s) ∨
    ∃ b rest, s.bootPending = false ∧ s.rx = b :: rest ∧
      ((s.session ≠ 0#8 ∧ hostService s = .refused .sessionNonzero) ∨
        (s.session = 0#8 ∧ hostService s = exec (decodeReq b) { s with rx := rest })) := by
  unfold hostService
  cases hb : s.bootPending with
  | true => exact .inl ⟨.inl rfl, rfl⟩
  | false =>
    cases hr : s.rx with
    | nil => exact .inl ⟨.inr rfl, rfl⟩
    | cons b rest =>
      refine .inr ⟨b, rest, rfl, rfl, ?_⟩
      by_cases hs : s.session = 0#8
      · exact .inr ⟨hs, by simp [hs]⟩
      · exact .inl ⟨hs, by simp [hs]⟩

/-- A step performs the next action. -/
theorem step_eq_perform (s : State) : step s = perform (nextAction s) (afterChoice s) := rfl

/-- Choosing what comes next changes the model's own fields only. -/
theorem afterChoice_frame (s : State) :
    afterChoice s =
      { s with
        agenda := (afterChoice s).agenda, owed := (afterChoice s).owed, patience := (afterChoice s).patience,
        draws := (afterChoice s).draws } := by
  unfold afterChoice
  split
  · rfl
  · split <;> rfl

@[simp] theorem afterChoice_mbox (s : State) : (afterChoice s).mbox = s.mbox := by rw [afterChoice_frame]
@[simp] theorem afterChoice_prev (s : State) : (afterChoice s).prev = s.prev := by rw [afterChoice_frame]
@[simp] theorem afterChoice_sr (s : State) : (afterChoice s).sr = s.sr := by rw [afterChoice_frame]
@[simp] theorem afterChoice_kstate (s : State) : (afterChoice s).kstate = s.kstate := by rw [afterChoice_frame]
@[simp] theorem afterChoice_kq (s : State) : (afterChoice s).kq = s.kq := by rw [afterChoice_frame]
@[simp] theorem afterChoice_acc (s : State) : (afterChoice s).acc = s.acc := by rw [afterChoice_frame]
@[simp] theorem afterChoice_session (s : State) : (afterChoice s).session = s.session := by rw [afterChoice_frame]
@[simp] theorem afterChoice_bootPending (s : State) : (afterChoice s).bootPending = s.bootPending := by rw [afterChoice_frame]
@[simp] theorem afterChoice_bootStatus (s : State) : (afterChoice s).bootStatus = s.bootStatus := by rw [afterChoice_frame]
@[simp] theorem afterChoice_rx (s : State) : (afterChoice s).rx = s.rx := by rw [afterChoice_frame]
@[simp] theorem afterChoice_trace (s : State) : (afterChoice s).trace = s.trace := by rw [afterChoice_frame]
@[simp] theorem afterChoice_wire (s : State) : (afterChoice s).wire = s.wire := by rw [afterChoice_frame]
@[simp] theorem afterChoice_unflushed (s : State) : (afterChoice s).unflushed = s.unflushed := by rw [afterChoice_frame]
@[simp] theorem afterChoice_params (s : State) : (afterChoice s).params = s.params := by rw [afterChoice_frame]

theorem step_of_agenda {s : State} {a : Action} {ag : List Action} (h : s.agenda = a :: ag) :
    step s = perform a { s with agenda := ag } := by
  simp [step, nextAction, afterChoice, h]

/-- The owed step is due (R59). -/
theorem step_of_due {s : State} (ha : s.agenda = []) (hp : s.patience = 0) :
    step s = perform s.owed.action
      { s with owed := s.owed.following, patience := Config.patience s.draws, draws := s.draws + 1 } := by
  simp [step, nextAction, afterChoice, ha, hp]

/-- A free choice, which uses up patience (R59). -/
theorem step_of_free {s : State} (ha : s.agenda = []) (hp : s.patience ≠ 0) :
    step s = perform (Config.schedule s.draws) { s with patience := s.patience - 1, draws := s.draws + 1 } := by
  simp [step, nextAction, afterChoice, ha, hp]

/-- What a request leaves of the choice of steps, and of the session count once it is 0: both as they were. -/
theorem exec_keeps_choice {i : Instr} {s t : State} (h : exec i s = .next t) :
    t.agenda = s.agenda ∧ t.owed = s.owed ∧ t.patience = s.patience ∧ (s.session = 0#8 → t.session = 0#8) := by
  rcases exec_cases i s with ⟨_, h'⟩ | ⟨_, h'⟩ | ⟨_, h'⟩ | ⟨_, h'⟩ <;> rw [h] at h' <;> injection h' with h' <;>
    subst h' <;> simp [badCommand]

/-- What an action leaves of the choice of steps: no action writes the agenda, the owed step or the patience (R59), nor
a session count that is 0 (R29). -/
theorem perform_keeps_choice {a : Action} {s t : State} (h : perform a s = .next t) :
    t.agenda = s.agenda ∧ t.owed = s.owed ∧ t.patience = s.patience ∧ (s.session = 0#8 → t.session = 0#8) := by
  cases a
  case hostService =>
    replace h : hostService s = .next t := h
    rcases hostService_cases s with ⟨_, h'⟩ | ⟨b, rest, _, _, ⟨_, h'⟩ | ⟨_, h'⟩⟩ <;> rw [h] at h'
    · injection h' with h'; subst h'; simp
    · cases h'
    · exact exec_keeps_choice (s := { s with rx := rest }) h'.symm
  all_goals (injection h with h; subst h)
  case framePoll l =>
    split
    · simp
    · cases l
      · rw [framePoll_kbd_frame]; simp
      · rw [framePoll_mouse_frame]; simp
  case bootAnnounce => split <;> simp
  all_goals simp

/-- With the session count 0 every action completes (R29, R185). -/
theorem perform_completes (a : Action) {s : State} (h : s.session = 0#8) : ∃ t, perform a s = .next t := by
  cases a
  case hostService =>
    rcases hostService_cases s with ⟨_, h'⟩ | ⟨b, rest, _, _, ⟨hs, _⟩ | ⟨_, h'⟩⟩
    · exact ⟨_, h'⟩
    · exact absurd h hs
    · rcases exec_cases (decodeReq b) { s with rx := rest } with ⟨_, he⟩ | ⟨_, he⟩ | ⟨_, he⟩ | ⟨_, he⟩ <;>
        exact ⟨_, h'.trans he⟩
  all_goals exact ⟨_, rfl⟩

/-! ### The wires of one line (R81) -/

/-- What `setWires` does to the clocks and to the data wire: the other line's clock never falls, a line's own clock
falls exactly from high to low, and its data wire is what was set. -/
theorem setWires_facts (l : Line) (w : Wires) (d c d' c' : Bool) :
    (∀ m, m ≠ l → clkFalls m (setWires l d c w) (setWires l d' c' w) = false) ∧
    clkFalls l (setWires l d c w) (setWires l d' c' w) = (c && !c') ∧
    dataLevel l (setWires l d' c' w) = d' ∧
    setWires l d' c' (setWires l d c w) = setWires l d' c' w := by
  refine ⟨fun m hm => ?_, ?_⟩
  · cases l <;> cases m <;> (try exact absurd rfl hm) <;> revert w d c d' c' <;> decide
  · cases l <;> revert w d c d' c' <;> decide

/-- Any wire levels are their own, set on one line. -/
theorem setWires_levels (l : Line) (w : Wires) : setWires l (dataLevel l w) (clkLevel l w) w = w := by
  cases l <;> revert w <;> decide

/-! ### Runs -/

/-- The host's run, one step at a time, on any machine. -/
theorem coreRun_succ (M : Host.Core) (n : Nat) (s : M.State) :
    (∀ t, M.step s = .next t → M.run (n + 1) s = M.run n t) ∧
    (∀ r, M.step s = .fault r → M.run (n + 1) s = .fault r) ∧
    (∀ r, M.step s = .refused r → M.run (n + 1) s = .refused r) := by
  refine ⟨fun t h => ?_, fun r h => ?_, fun r h => ?_⟩ <;> simp [Host.Core.run, h]

/-- `runSteps` is the host's run of this machine. -/
theorem runSteps_eq_core_run (n : Nat) (s : State) : runSteps n s = Host.Core.run Sys2Proof.core n s := by
  induction n generalizing s with
  | zero => rfl
  | succ n ih =>
    have host := coreRun_succ Sys2Proof.core n s
    cases h : step s with
    | next t =>
      have mine : runSteps (n + 1) s = runSteps n t := by simp [runSteps, h]
      exact mine.trans ((ih t).trans (host.1 t h).symm)
    | fault r =>
      have mine : runSteps (n + 1) s = .fault r := by simp [runSteps, h]
      exact mine.trans (host.2.1 r h).symm
    | refused r =>
      have mine : runSteps (n + 1) s = .refused r := by simp [runSteps, h]
      exact mine.trans (host.2.2 r h).symm

/-- A run goes on with the state its first step answers. -/
theorem runSteps_succ_of_next {n : Nat} {s t : State} (h : step s = .next t) :
    runSteps (n + 1) s = runSteps n t := by
  simp [runSteps, h]

/-- A run cut in two: where the first part ends, the second begins. -/
theorem runSteps_add {m : Nat} (n : Nat) {s t : State} (h : runSteps m s = .next t) :
    runSteps (m + n) s = runSteps n t := by
  induction m generalizing s with
  | zero => injection h with h; rw [h, Nat.zero_add]
  | succ m ih =>
    cases hs : step s with
    | next u =>
      rw [runSteps_succ_of_next hs] at h
      rw [Nat.succ_add, runSteps_succ_of_next hs, ih h]
    | fault r => simp [runSteps, hs] at h
    | refused r => simp [runSteps, hs] at h

end Sys2Proof.Machine
end

