-- ==== Sys2Proof/Tests/Slice0.lean ====
section
/-!
SUPPORT. The model's own tests: words and values from spec/30_encoding.md and the vectors of spec/95_test_vectors.md
(named V-… there), and a witness for the hypotheses of every statement that has some. Each runs at most one step.
-/

namespace Sys2Proof.Tests

open Sys2Proof Sys2Proof.Machine

/-! ### Helpers -/

/-- `EXCFG` (R12): the configuration of the vectors. -/
def exParams : Config.Params where
  scan := Config.excfg
  options := {}
  txLoss := false

/-- The start state of most vectors: S0 after BOOT_ANNOUNCE, under EXCFG with `BS = 0x83`, its trace not shown. -/
def ready : State := { State.reset with bootPending := false, bootStatus := 0x83#8, params := exParams }

/-- The state with an agenda. -/
def next (as : List Action) (s : State) : State := { s with agenda := as }

/-- A field of the state a step answers, where it answers one. -/
def after {α : Type} (f : State → α) : Host.Outcome State Fault Refusal → Option α
  | .next t => some (f t)
  | .fault _ => none
  | .refused _ => none

/-! ### Well-formedness: the one check refuses a catch-all that carries a defined code (R66) -/

theorem test_illformed_unrecognized_code : (Instr.unrecognized 0x41#8).wellFormed = false := by decide
theorem test_wellformed_unrecognized : (Instr.unrecognized 0x5A#8).wellFormed = true := by decide

/-! ### Decoding: each word from the encoding column of the request table -/

theorem test_decode_reset : decodeReq 0b01000001#8 = .reset := by decide
theorem test_decode_ps2data : decodeReq 0b01000010#8 = .ps2data := by decide
theorem test_decode_ps2led : decodeReq 0b01000011#8 = .ps2led := by decide
theorem test_decode_lptdata : decodeReq 0b01000100#8 = .lptdata := by decide
theorem test_decode_lptread : decodeReq 0b01000101#8 = .lptread := by decide
theorem test_decode_lptctrl : decodeReq 0b01000110#8 = .lptctrl := by decide
theorem test_decode_lptbufdata : decodeReq 0b01000111#8 = .lptbufdata := by decide
theorem test_decode_lptreadpend : decodeReq 0b01001000#8 = .lptreadpend := by decide
theorem test_decode_lptsetmode : decodeReq 0b01001001#8 = .lptsetmode := by decide
theorem test_decode_ping : decodeReq 0b01001010#8 = .ping := by decide
theorem test_decode_bootloader : decodeReq 0b01001011#8 = .bootloader := by decide
theorem test_decode_below_codes : decodeReq 0x40#8 = .unrecognized 0x40#8 := by decide
theorem test_decode_above_codes : decodeReq 0x4C#8 = .unrecognized 0x4C#8 := by decide
theorem test_decode_confirmation_code : decodeReq 0x61#8 = .unrecognized 0x61#8 := by decide
theorem test_decode_no_byte : decode [] = .error .noByte := rfl

/-! ### Requests (V-HC) -/

/-- V-HC-1. -/
theorem test_ping : after State.trace (step (ready.withFetchWord 8 0x4A)) = some [.tx 0x6A#8] := by decide

/-- Example of R161: queue [1C, 9C, 0], accumulator zero. -/
theorem test_ps2data :
    after State.trace (exec .ps2data { ready with kq := { k0 := 0x1C#8, k1 := 0x9C#8, k2 := 0#8 } }) =
      some [.tx 0x62#8, .tx 0x1C#8, .tx 0x9C#8, .tx 0#8, .tx 0#8, .tx 0#8, .tx 0#8] := by decide

/-- V-Q-7: `CLEAR_ON_READ`. -/
theorem test_ps2data_clears :
    after State.kq (exec .ps2data
      { ready with
        kq := { k0 := 0x1C#8, k1 := 0x9C#8, k2 := 0#8 }
        params := { exParams with options := { clearOnRead := true } } }) =
      some { k0 := 0#8, k1 := 0#8, k2 := 0#8 } := by decide

/-- V-HC-12. -/
theorem test_reset_trace :
    after State.trace (step (ready.withFetchWord 8 0x41)) = some [.tx 0x61#8, .flush, .restart] := by decide

/-- V-HC-12: the wire has the confirmation, and a received byte not yet taken is gone. -/
theorem test_reset_discards :
    after (fun t => (t.wire, t.rx, t.bootPending)) (exec .reset { ready with rx := [0x4A#8] }) =
      some ([0x61#8], [], true) := by decide

/-- V-HC-3. -/
theorem test_ps2led : after State.trace (step (ready.withFetchWord 8 0x43)) = some [.tx 0x34#8] := by decide
/-- V-HC-4. -/
theorem test_lptdata : after State.trace (step (ready.withFetchWord 8 0x44)) = some [.tx 0x34#8] := by decide
/-- V-HC-5. -/
theorem test_lptread : after State.trace (step (ready.withFetchWord 8 0x45)) = some [.tx 0x34#8] := by decide
/-- V-HC-6. -/
theorem test_lptctrl : after State.trace (step (ready.withFetchWord 8 0x46)) = some [.tx 0x34#8] := by decide
/-- V-HC-7. -/
theorem test_lptbufdata : after State.trace (step (ready.withFetchWord 8 0x47)) = some [.tx 0x34#8] := by decide
/-- V-HC-8. -/
theorem test_lptreadpend : after State.trace (step (ready.withFetchWord 8 0x48)) = some [.tx 0x34#8] := by decide
/-- V-HC-9. -/
theorem test_lptsetmode : after State.trace (step (ready.withFetchWord 8 0x49)) = some [.tx 0x34#8] := by decide
/-- V-HC-11. -/
theorem test_bootloader : after State.trace (step (ready.withFetchWord 8 0x4B)) = some [.tx 0x34#8] := by decide
/-- V-HC-10. -/
theorem test_unrecognized : after State.trace (step (ready.withFetchWord 8 0x5A)) = some [.tx 0x34#8] := by decide

/-- A request word is the first thing that runs after reset. -/
theorem test_fetch_from_reset :
    step (State.reset.withFetchWord 8 0x4A) = exec .ping { State.reset with bootPending := false } := rfl

/-! ### Boot and restart -/

/-- Example of R156: 0x30, 0x83. -/
theorem test_boot_announce :
    after State.trace (step (next [.bootAnnounce] { ready with bootPending := true })) =
      some [.tx 0x30#8, .tx 0x83#8] := by decide

/-- With nothing on the agenda and no patience left, the owed step is taken (R59). -/
theorem test_owed_step_is_taken :
    after (fun t => (t.trace, t.owed))
      (step { ready with bootPending := true, owed := .bootAnnounce, patience := 0 }) =
      some ([.tx 0x30#8, .tx 0x83#8], .pollKbd) := by decide

/-- V-HC-17: the boot gate. -/
theorem test_boot_gate :
    after (fun t => (t.trace, t.rx)) (step (next [.hostService] { ready with bootPending := true, rx := [0x4A#8] })) =
      some ([], [0x4A#8]) := by decide

/-- V-HC-19: no byte for the error, and the queue is empty after it. -/
theorem test_rx_error :
    after (fun t => (t.trace, t.kq.k0))
      (step (next [.rxError] { ready with kq := { k0 := 0x1C#8, k1 := 0#8, k2 := 0#8 } })) =
      some ([.restart], 0#8) := by decide

/-- R29: a session count other than 0 is refused. -/
theorem test_session_nonzero :
    step (next [.hostService] { ready with session := 1#8, rx := [0x4A#8] }) = .refused .sessionNonzero := rfl

/-! ### Sampler (V-SA) -/

/-- V-SA-1. -/
theorem test_sample_high :
    after (fun t => (t.mbox.kbd, t.mbox.mouse, t.prev)) (step (next [.sample 0b1110#4] ready)) =
      some (.high, .waiting, 0b1110#4) := by decide
/-- V-SA-2: data and clock change together. -/
theorem test_sample_new_level :
    after (fun t => t.mbox.kbd) (step (next [.sample 0b1100#4] ready)) = some .low := by decide
/-- V-SA-3: a rising edge writes no mailbox. -/
theorem test_sample_rising :
    after (fun t => t.mbox.kbd) (step (next [.sample 0b1111#4] { ready with prev := 0b1110#4 })) =
      some .waiting := by decide
/-- V-SA-5: both clocks fall. -/
theorem test_sample_both :
    after State.mbox (step (next [.sample 0b1010#4] ready)) = some { kbd := .high, mouse := .high } := by decide
/-- V-SA-6. -/
theorem test_sample_mouse_low :
    after State.mbox (step (next [.sample 0b0011#4] ready)) = some { kbd := .waiting, mouse := .low } := by decide
/-- V-SA-9: an unconsumed High is overwritten. -/
theorem test_sample_overwrites :
    after (fun t => t.mbox.kbd)
      (step (next [.sample 0b1100#4] { ready with prev := 0b1101#4, mbox := { kbd := .high, mouse := .waiting } })) =
      some .low := by decide

/-! ### Frame decoder (V-FD) -/

/-- A state in which one more bit of a keyboard frame waits. -/
def kbdBit (sr : Half) (b : BitState) : State :=
  next [.framePoll .kbd]
    { ready with mbox := { kbd := b, mouse := .waiting }, sr := { kbd := sr, mouse := Config.seed } }

/-- V-FD-2. -/
theorem test_poll_shifts : after (fun t => (t.sr.kbd, t.mbox.kbd)) (step (kbdBit 0x0001#16 .high)) =
    some (0x0003#16, .waiting) := by decide
/-- V-FD-3, poll 11: the byte 0x1C. -/
theorem test_poll_completes : after (fun t => (t.sr.kbd, t.kq.k0)) (step (kbdBit 0x0470#16 .high)) =
    some (0x0001#16, 0x1C#8) := by decide
/-- V-FD-6: stop bit 0. -/
theorem test_poll_bad_stop : after (fun t => (t.sr.kbd, t.kq.k0)) (step (kbdBit 0x0470#16 .low)) =
    some (0x0001#16, 0#8) := by decide
/-- V-FD-5: start bit 1. -/
theorem test_poll_bad_start : after (fun t => (t.sr.kbd, t.kq.k0)) (step (kbdBit 0x0670#16 .high)) =
    some (0x0001#16, 0#8) := by decide
/-- V-FD-7: bad parity, not checked. -/
theorem test_poll_parity_ignored : after (fun t => t.kq.k0) (step (kbdBit 0x0471#16 .high)) = some 0x1C#8 := by decide
/-- V-FD-7: bad parity, checked. -/
theorem test_poll_parity_checked :
    after (fun t => t.kq.k0)
      (step { kbdBit 0x0471#16 .high with params := { exParams with options := { parityCheck := true } } }) =
      some 0#8 := by decide
/-- V-FD-4: the byte of the register image of 0x6B, and that of 0xE0. -/
theorem test_frame_bytes : (frameByte 0x0B59#16, frameByte 0x081D#16) = (0x6B#8, 0xE0#8) := by decide
/-- V-FD-10, the last poll of MOUSE_FRAME 0xFA: its byte on the mouse port, no key event. -/
theorem test_poll_mouse :
    after (fun t => (t.trace, t.kq.k0))
      (step (next [.framePoll .mouse]
        { ready with mbox := { kbd := .waiting, mouse := .high }, sr := { kbd := 1#16, mouse := 0x04BF#16 } })) =
      some ([.outMouse 0xFA#8], 0#8) := by decide

/-! ### Translator (V-TR) -/

/-- The first slot and the state after a byte is translated in a state, with the extended release repaired or not. -/
def translated (k : KState) (fix : Bool) (b : Byte) : Byte × KState :=
  let t := translateByte b { ready with kstate := k, params := { exParams with options := { fixExtRelease := fix } } }
  (t.kq.k0, t.kstate)

/-- V-TR-2, V-TR-3, V-TR-4, V-TR-6, V-TR-7. -/
theorem test_translate_idle :
    [0x7F#8, 0x83#8, 0x80#8, 0xE0#8, 0xF0#8].map (translated .idle false) =
      [(0x7F#8, .idle), (0x02#8, .idle), (0#8, .idle), (0#8, .extended), (0#8, .release)] := by decide
/-- V-TR-9, V-TR-11, V-TR-13, V-TR-15. -/
theorem test_translate_extended :
    [0x75#8, 0x6B#8, 0x1C#8, 0xF0#8].map (translated .extended false) =
      [(0x60#8, .idle), (0x63#8, .idle), (0#8, .idle), (0#8, .idle)] := by decide
/-- V-TR-16, V-TR-17, V-TR-19, V-TR-21, V-TR-22. -/
theorem test_translate_release :
    [0x1C#8, 0x83#8, 0x00#8, 0xF0#8, 0xE0#8].map (translated .release false) =
      [(0x9C#8, .idle), (0x82#8, .idle), (0x80#8, .idle), (0#8, .idle), (0#8, .extended)] := by decide
/-- V-TR-23. -/
theorem test_translate_release_repaired : translated .release true 0xE0#8 = (0#8, .extendedRelease) := by decide
/-- V-TR-24, V-TR-25, V-TR-26. -/
theorem test_translate_extended_release :
    [0x75#8, 0x6B#8, 0x1C#8].map (translated .extendedRelease true) =
      [(0xE0#8, .idle), (0xE3#8, .idle), (0#8, .idle)] := by decide

/-! ### Queue and mouse (V-Q, V-EN) -/

/-- V-Q-3, V-Q-4, V-Q-5. -/
theorem test_push :
    (KeyQueue.push 0x9C#8 { k0 := 0x15#8, k1 := 0x1D#8, k2 := 0x24#8 },
      KeyQueue.push 0x00#8 { k0 := 0x11#8, k1 := 0#8, k2 := 0#8 },
      KeyQueue.push 0x80#8 { k0 := 0x11#8, k1 := 0#8, k2 := 0#8 }) =
    ({ k0 := 0x15#8, k1 := 0x1D#8, k2 := 0x24#8 }, { k0 := 0x11#8, k1 := 0#8, k2 := 0#8 },
      { k0 := 0x11#8, k1 := 0x80#8, k2 := 0#8 }) := by decide

/-- V-EN-4, V-EN-5, V-EN-6, V-EN-10. -/
theorem test_encode_x :
    [255#16, 256#16, -1#16, -32768#16].map (fun x => encodeReport { x := x, y := 0#16, status := 0#8 }) =
      [[0x00#8, 0xFF#8, 0#8], [0x40#8, 0xFF#8, 0#8], [0x10#8, 0x01#8, 0#8], [0x50#8, 0xFF#8, 0#8]] := by decide
/-- V-EN-14, V-EN-15, V-EN-18, V-EN-19. -/
theorem test_encode_status :
    [encodeReport { x := 1#16, y := 1#16, status := 0x30#8 }, encodeReport { x := 3#16, y := -2#16, status := 0x77#8 },
      encodeReport { x := -300#16, y := 5#16, status := 0x09#8 },
      encodeReport { x := -256#16, y := -32768#16, status := 0x07#8 }] =
      [[0x00#8, 0x01#8, 0x01#8], [0x67#8, 0x03#8, 0x02#8], [0x59#8, 0xFF#8, 0x05#8], [0xF7#8, 0xFF#8, 0xFF#8]] := by
  decide

/-! ### Witnesses: a state and operands that meet the hypotheses of each statement together -/

theorem test_witness_DecodeInvertsEncode : (Instr.unrecognized 0x4C#8).wellFormed = true := by decide

theorem test_witness_EncodeInvertsDecode : decode [0x42#8, 0x43#8] = .ok (.ps2data, [0x43#8]) := by rfl

/-- Both clauses: session 0, and session not 0. -/
theorem test_witness_StepRunsDecodedRequest :
    (∃ (s : State) (ag : List Action) (i : Instr) (rest : List Byte),
      s.agenda = .hostService :: ag ∧ s.bootPending = false ∧ decode s.rx = .ok (i, rest) ∧ s.session = 0#8) ∧
    (∃ (s : State) (ag : List Action) (i : Instr) (rest : List Byte),
      s.agenda = .hostService :: ag ∧ s.bootPending = false ∧ decode s.rx = .ok (i, rest) ∧ s.session ≠ 0#8) :=
  ⟨⟨next [.hostService] { ready with rx := [0x4A#8] }, [], .ping, [], rfl, rfl, rfl, rfl⟩,
    ⟨next [.hostService] { ready with rx := [0x4A#8], session := 1#8 }, [], .ping, [], rfl, rfl, rfl, by decide⟩⟩

/-- Both clauses: patience left, and none. -/
theorem test_witness_EmptyAgendaDrawsAnAction :
    (∃ s : State, s.agenda = [] ∧ s.patience ≠ 0) ∧ (∃ s : State, s.agenda = [] ∧ s.patience = 0) :=
  ⟨⟨{ ready with patience := 1 }, rfl, by decide⟩, ⟨{ ready with patience := 0 }, rfl, rfl⟩⟩

theorem test_witness_EveryPollStepComesUp : State.reset.session = 0#8 := rfl

theorem test_witness_EveryRunIsWeaklyFair : (next [.rxError] ready).session = 0#8 := rfl

/-- Enabled in the state, for the premise of `WeaklyFairFrom`: each of the four steps. -/
theorem test_witness_enabled :
    PollStep.bootAnnounce.enabled State.reset ∧ PollStep.pollKbd.enabled ready ∧ PollStep.pollMouse.enabled ready ∧
      PollStep.hostService.enabled { ready with rx := [0x4A#8] } := by
  unfold PollStep.enabled; decide

theorem test_witness_EveryBootIsAnnounced : State.reset.session = 0#8 ∧ State.reset.bootPending = true := ⟨rfl, rfl⟩

/-- One state for each clause: the agenda holds each of the actions the clauses name. -/
theorem test_witness_BootGateHoldsThePollLoop :
    ∀ a ∈ [Action.framePoll .kbd, .framePoll .mouse, .hostService, .sample 0#4, .mouseLoad 1#16 2#16 3#8, .rxError],
      (next [a] State.reset).bootPending = true ∧ (next [a] State.reset).agenda = [a] := by decide

/-- BOOT_ANNOUNCE steps from power-on, and so does a sample. -/
theorem test_witness_BootedIndicationComesFirst :
    (∃ s t : State, s.bootPending = true ∧ step s = .next t ∧ nextAction s = .bootAnnounce) ∧
    (∃ s t : State, s.bootPending = true ∧ step s = .next t ∧ nextAction s ≠ .bootAnnounce) :=
  ⟨⟨next [.bootAnnounce] State.reset, _, rfl, rfl, rfl⟩,
    ⟨next [.sample 0#4] State.reset, _, rfl, rfl, by decide⟩⟩

theorem test_witness_ReceivedBytesQueueInOrder :
    (next [.rxByte 0x41#8] ready).agenda = .rxByte 0x41#8 :: [] := rfl

/-- Each of the eight. -/
theorem test_witness_UnimplementedRequestsAnswerBadCommand :
    let eight : List Instr :=
      [.ps2led, .lptdata, .lptread, .lptctrl, .lptbufdata, .lptreadpend, .lptsetmode, .bootloader]
    .ps2led ∈ eight ∧ .lptdata ∈ eight ∧ .lptread ∈ eight ∧ .lptctrl ∈ eight ∧ .lptbufdata ∈ eight ∧
      .lptreadpend ∈ eight ∧ .lptsetmode ∈ eight ∧ .bootloader ∈ eight := by
  decide

/-- The bytes next to the range of the codes. -/
theorem test_witness_RequestDecodeIsTotal : (0x40#8 : Byte) < 0x41#8 ∧ (0x4B#8 : Byte) < 0x4C#8 := by decide

/-- The bytes next to the range, for the hypothesis on the byte. -/
theorem test_witness_UnrecognizedAnswersBadCommand :
    ((0x40#8 : Byte) < 0x41#8 ∨ 0x4B#8 < (0x40#8 : Byte)) ∧ ((0x4C#8 : Byte) < 0x41#8 ∨ 0x4B#8 < (0x4C#8 : Byte)) := by
  decide

theorem test_witness_BootAnnounceSendsBooted :
    (next [.bootAnnounce] State.reset).agenda = .bootAnnounce :: [] ∧
      (next [.bootAnnounce] State.reset).bootPending = true := ⟨rfl, rfl⟩

/-- One state for each of the three bytes the clauses tell apart. -/
theorem test_witness_EveryRequestGetsOneResponse :
    ∀ b ∈ [0x41#8, 0x42#8, 0x5A#8],
      servesNext (next [.hostService] { ready with rx := [b, 0x4A#8] }) b ∧
        (next [.hostService] { ready with rx := [b, 0x4A#8] }).session = 0#8 := by
  unfold servesNext; decide

/-- A step that answers a next state, for the statements about every step: each kind of output. -/
theorem test_witness_EveryStepOutputsAListedMessage :
    (∃ s t : State, step s = .next t ∧ nextAction s = .rxError) ∧
    (∃ s t : State, step s = .next t ∧ nextAction s = .framePoll .mouse) ∧
    (∃ s t : State, step s = .next t ∧ nextAction s = .bootAnnounce ∧ s.bootPending = true) ∧
    (∃ s t : State, step s = .next t ∧ servesNext s 0x42#8) :=
  ⟨⟨next [.rxError] ready, _, rfl, rfl⟩, ⟨next [.framePoll .mouse] ready, _, rfl, rfl⟩,
    ⟨next [.bootAnnounce] State.reset, _, rfl, rfl, rfl⟩,
    ⟨next [.hostService] { ready with rx := [0x42#8] }, _, rfl, rfl, rfl, rfl⟩⟩

theorem test_witness_OnlyResetAndTransportErrorRestart :
    (∃ s t : State, step s = .next t ∧ servesNext s 0x41#8) ∧ (∃ s t : State, step s = .next t ∧ nextAction s = .rxError) :=
  ⟨⟨next [.hostService] { ready with rx := [0x41#8] }, _, rfl, rfl, rfl, rfl⟩, ⟨next [.rxError] ready, _, rfl, rfl⟩⟩

theorem test_witness_TransportErrorRestartsSilently : (next [.rxError] ready).agenda = .rxError :: [] := rfl

/-- With bytes to lose, with `TX_LOSS_ON_ERROR_RESTART` and without. -/
theorem test_witness_ErrorRestartLosesOnlyUnflushedBytes :
    (∃ s t : State, nextAction s = .rxError ∧ step s = .next t ∧ s.unflushed = [0x6A#8] ∧ s.params.txLoss = false) ∧
    (∃ s t : State, nextAction s = .rxError ∧ step s = .next t ∧ s.unflushed = [0x6A#8] ∧ s.params.txLoss = true) :=
  ⟨⟨next [.rxError] { ready with unflushed := [0x6A#8] }, _, rfl, rfl, rfl, rfl⟩,
    ⟨next [.rxError] { ready with unflushed := [0x6A#8], params := { exParams with txLoss := true } }, _,
      rfl, rfl, rfl, rfl⟩⟩

/-- `ready` has the invariant, so the statements that assume it assume something. -/
theorem test_witness_Inv : ready.Inv where
  kbdRegister := by unfold registerOk; decide
  mouseRegister := by unfold registerOk; decide
  queue := by unfold KeyQueue.isPrefix; decide
  session := rfl
  bootBit := by decide
  noExtendedRelease := by decide
  constants := by decide

theorem test_witness_EveryStepKeepsTheInvariant : ∃ s t : State, s.Inv ∧ step s = .next t :=
  ⟨{ ready with agenda := [.rxError] }, _, { test_witness_Inv with }, rfl⟩

theorem test_witness_NoRunStops : ∃ s : State, s.Inv := ⟨ready, test_witness_Inv⟩

theorem test_witness_EveryStepKeepsDelivery : ∃ s t : State, s.Delivery ∧ step s = .next t :=
  ⟨next [.rxError] ready, _, ⟨List.Sublist.refl _, fun _ => rfl⟩, rfl⟩

theorem test_witness_ParametersNeverChange : ∃ s t : State, step s = .next t :=
  ⟨next [.rxError] ready, _, rfl⟩

theorem test_witness_SampleRecordsFallingEdges :
    (next [.sample 0b1010#4] ready).agenda = .sample 0b1010#4 :: [] := rfl

theorem test_witness_SampleTouchesNothingElse :
    ∃ s u : State, s.mbox = u.mbox ∧ s.prev = u.prev ∧ s.kstate ≠ u.kstate :=
  ⟨ready, { ready with kstate := .release }, rfl, rfl, by decide⟩

theorem test_witness_OverwrittenBitIsLost :
    (let s := next [.sample 0b1110#4] ready
     s.agenda = .sample 0b1110#4 :: [] ∧ clkFalls .kbd s.prev 0b1110#4 = true) ∧
    (let s := next [.sample 0b1011#4] ready
     s.agenda = .sample 0b1011#4 :: [] ∧ clkFalls .mouse s.prev 0b1011#4 = true) := by decide

theorem test_witness_EmptyMailboxPollChangesNothing :
    (next [.framePoll .mouse] ready).agenda = .framePoll .mouse :: [] ∧
      (next [.framePoll .mouse] ready).mbox.get .mouse = .waiting := ⟨rfl, rfl⟩

theorem test_witness_ShiftAppendsTheBit :
    BitState.high.bit = some true ∧ BitState.low.bit = some false ∧ (0x07FF#16 : Half) ≤ 0x07FF#16 := by decide

theorem test_witness_IncompleteFrameOnlyShifts :
    let s := kbdBit 0x03FF#16 .high
    s.agenda = .framePoll .kbd :: [] ∧ s.bootPending = false ∧ (s.mbox.get .kbd).bit = some true ∧
      (shiftIn (s.sr.get .kbd) true).getLsbD 11 = false := by decide

/-- One state for each way a frame can be malformed. -/
theorem test_witness_MalformedFrameIsDiscarded :
    (let s := kbdBit 0x0670#16 .high
     s.agenda = .framePoll .kbd :: [] ∧ s.bootPending = false ∧ (s.mbox.get .kbd).bit = some true ∧
       (shiftIn (s.sr.get .kbd) true).getLsbD 11 = true ∧ (shiftIn (s.sr.get .kbd) true).getLsbD 10 = true) ∧
    (let s := kbdBit 0x0470#16 .low
     s.agenda = .framePoll .kbd :: [] ∧ s.bootPending = false ∧ (s.mbox.get .kbd).bit = some false ∧
       (shiftIn (s.sr.get .kbd) false).getLsbD 11 = true ∧ (shiftIn (s.sr.get .kbd) false).getLsbD 0 = false) ∧
    (let s := { kbdBit 0x0471#16 .high with params := { exParams with options := { parityCheck := true } } }
     s.agenda = .framePoll .kbd :: [] ∧ s.bootPending = false ∧ (s.mbox.get .kbd).bit = some true ∧
       (shiftIn (s.sr.get .kbd) true).getLsbD 11 = true ∧ s.params.options.parityCheck = true ∧
       parityOk (shiftIn (s.sr.get .kbd) true) = false) := by decide

theorem test_witness_ValidFrameIsDelivered :
    let s := { kbdBit 0x0470#16 .high with params := { exParams with options := { parityCheck := true } } }
    s.agenda = .framePoll .kbd :: [] ∧ s.bootPending = false ∧ (s.mbox.get .kbd).bit = some true ∧
      (shiftIn (s.sr.get .kbd) true).getLsbD 11 = true ∧ (shiftIn (s.sr.get .kbd) true).getLsbD 10 = false ∧
      (shiftIn (s.sr.get .kbd) true).getLsbD 0 = true ∧
      (s.params.options.parityCheck = true → parityOk (shiftIn (s.sr.get .kbd) true) = true) := by decide

theorem test_witness_FrameByteReversesTheRegister : (7 : Nat) < 8 := by decide

theorem test_witness_ElevenBitsMakeOneFrame :
    let s := next (frameActions .mouse ready.prev false 0x1C#8 false true ++ []) ready
    s.bootPending = false ∧ s.sr.get .mouse = 0x0001#16 ∧
      s.agenda = frameActions .mouse s.prev false 0x1C#8 false true ++ [] := ⟨rfl, rfl, rfl⟩

/-- The slipped register of V-FD-9, with two more frames on the way. -/
theorem test_witness_OneBitSlipDiscardsEveryLaterFrame :
    let frames : List (Byte × Bool) := [(0x1C#8, false), (0x1C#8, false)]
    let s := next ((frames.flatMap fun f => frameActions .kbd ready.prev false f.1 f.2 true) ++ [])
      { ready with sr := { kbd := 0x0461#16, mouse := Config.seed } }
    s.bootPending = false ∧ 0x0400#16 ≤ s.sr.get .kbd ∧ s.sr.get .kbd ≤ 0x07FF#16 ∧
      s.agenda = (frames.flatMap fun f => frameActions .kbd s.prev false f.1 f.2 true) ++ [] :=
  ⟨rfl, by decide, by decide, rfl⟩

/-- Under EXCFG, one byte for each clause: the threshold itself, the exception byte, and a byte that is neither. -/
theorem test_witness_BaseMapPassesThrough :
    (0x7F#8 ≤ Config.excfg.passMax ∧ Config.excfg.valid = true) ∧
    (Config.excfg.passMax < 0x83#8 ∧ 0x83#8 = Config.excfg.excByte) ∧
    (Config.excfg.passMax < 0x80#8 ∧ 0x80#8 ≠ Config.excfg.excByte) := by decide

theorem test_witness_TranslateInIdle : ready.kstate = .idle := rfl
theorem test_witness_TranslateInExtended : (setKState .extended ready).kstate = .extended := rfl
theorem test_witness_TranslateInRelease : (setKState .release ready).kstate = .release := rfl
theorem test_witness_TranslateInExtendedRelease :
    (setKState .extendedRelease ready).kstate = .extendedRelease := rfl

theorem test_witness_PrefixSequencesFromIdle :
    ready.kstate = .idle ∧ ready.params.scan.valid = true ∧ (0x1C#8 : Byte) ≠ ready.params.scan.extPrefix := by decide

/-- One queue for each clause. -/
theorem test_witness_PushFillsTheFirstEmptySlot :
    (ready.kq.k0 = 0#8) ∧
    (let q : KeyQueue := { k0 := 1#8, k1 := 0#8, k2 := 0#8 }
     q.k0 ≠ 0#8 ∧ q.k1 = 0#8) ∧
    (let q : KeyQueue := { k0 := 1#8, k1 := 2#8, k2 := 0#8 }
     q.k0 ≠ 0#8 ∧ q.k1 ≠ 0#8 ∧ q.k2 = 0#8) ∧
    (let q : KeyQueue := { k0 := 1#8, k1 := 2#8, k2 := 3#8 }
     q.k0 ≠ 0#8 ∧ q.k1 ≠ 0#8 ∧ q.k2 ≠ 0#8) := by decide

theorem test_witness_FourPushesKeepTheFirstThree :
    ready.kq = { k0 := 0#8, k1 := 0#8, k2 := 0#8 } ∧ (0x15#8 : Byte) ≠ 0#8 ∧ (0x1D#8 : Byte) ≠ 0#8 ∧
      (0x24#8 : Byte) ≠ 0#8 ∧ (0x2D#8 : Byte) ≠ 0#8 := by decide

/-- A step that keeps the queue, a completed key frame, and one that restarts. -/
theorem test_witness_FullQueueStaysUntilRestart :
    ∀ a ∈ [Action.framePoll .kbd, .rxError], ∃ s t : State, nextAction s = a ∧
      s.params.options.clearOnRead = false ∧ s.kq.k0 ≠ 0#8 ∧ s.kq.k1 ≠ 0#8 ∧ s.kq.k2 ≠ 0#8 ∧ step s = .next t := by
  intro a _
  refine ⟨{ kbdBit 0x0470#16 .high with kq := { k0 := 1#8, k1 := 2#8, k2 := 3#8 }, agenda := [a] }, ?_⟩
  simp_all only [List.mem_cons, List.not_mem_nil, or_false]
  rcases ‹a = _ ∨ a = _› with rfl | rfl
  · exact ⟨_, rfl, rfl, by decide, by decide, by decide, rfl⟩
  · exact ⟨_, rfl, rfl, by decide, by decide, by decide, rfl⟩

theorem test_witness_MouseLoadSetsTheAccumulator :
    (next [.mouseLoad 1#16 2#16 3#8] ready).agenda = .mouseLoad 1#16 2#16 3#8 :: [] := rfl

theorem test_witness_AccumulatorHasOneWriter :
    ∃ s t : State, step s = .next t ∧ nextAction s = .mouseLoad 1#16 2#16 3#8 :=
  ⟨next [.mouseLoad 1#16 2#16 3#8] ready, _, rfl, rfl⟩

end Sys2Proof.Tests
end

