-- ==== Sys2Proof/Proofs/Encoding.lean ====
section
/-!
PROOFS. The encoding family: what each byte decodes to (R66 to R68).
-/

namespace Sys2Proof

/-- Settles O2: the eleven codes by computing `decode_req`, every other byte by the decoder's catch-all row (R68). -/
theorem requestDecodeIsTotal : Obligations.RequestDecodeIsTotal := by
  unfold Obligations.RequestDecodeIsTotal
  refine ⟨rfl, rfl, rfl, rfl, rfl, rfl, rfl, rfl, rfl, rfl, rfl, fun b hOutside => ?_⟩
  have hNotCode : isRequestCode b = false := (isRequestCode_false_iff b).mpr hOutside
  exact decodeReq_of_not_code hNotCode

end Sys2Proof
end

/-! PROOFS. The frame decoder family: the sampler's frame (R91 to R93), the shift (R95) and the frame byte (R97). -/

namespace Sys2Proof.Machine

/-! ### The sampler -/

/-- What SAMPLE leaves in a mailbox depends on the mailboxes and the snapshot alone (R92). -/
theorem sampledMailbox_congr {s u : State} (hMbox : s.mbox = u.mbox) (hPrev : s.prev = u.prev) (l : Line)
    (now : Wires) : sampledMailbox l now s = sampledMailbox l now u := by
  simp only [sampledMailbox, hMbox, hPrev]

/-- Where the clock of a line falls, SAMPLE leaves the data level in its mailbox (R91). -/
theorem sampledMailbox_of_falls {s : State} {l : Line} {now : Wires} (h : clkFalls l s.prev now = true) :
    sampledMailbox l now s = .ofLevel (dataLevel l now) := by
  simp only [sampledMailbox, h, if_true]

/-- Where the clock of a line falls, what its mailbox held has no part in what SAMPLE leaves in either mailbox (R93). -/
theorem sampledMailbox_set_of_falls {s : State} {l : Line} {now : Wires} (h : clkFalls l s.prev now = true)
    (v : BitState) (m : Line) :
    sampledMailbox m now { s with mbox := s.mbox.set l v } = sampledMailbox m now s := by
  by_cases hm : m = l
  · subst hm
    rw [sampledMailbox_of_falls h, sampledMailbox_of_falls (s := { s with mbox := s.mbox.set m v }) h]
  · simp only [sampledMailbox, PerLine.get_set_of_ne s.mbox hm]

/-- Where the clock of a line falls, SAMPLE leaves no trace of what its mailbox held (R93). -/
theorem sample_set_mbox_of_falls {s : State} {l : Line} {now : Wires} (h : clkFalls l s.prev now = true)
    (v : BitState) : sample now { s with mbox := s.mbox.set l v } = sample now s := by
  simp only [sample, sampledMailbox_set_of_falls h]

/-- Settles O28: a sample writes the two fields by definition, and each mailbox from those two fields (R92). -/
theorem sampleTouchesNothingElse : Obligations.SampleTouchesNothingElse := by
  unfold Obligations.SampleTouchesNothingElse
  refine fun s u now => ⟨rfl, fun hMbox hPrev => ⟨?_, rfl⟩⟩
  simp only [sample_mbox, sampledMailbox_congr hMbox hPrev]

/-- Settles O29: the step is the sample, and the sample overwrites that mailbox (R93). -/
theorem overwrittenBitIsLost : Obligations.OverwrittenBitIsLost := by
  unfold Obligations.OverwrittenBitIsLost
  intro s l now v ag hAgenda hFalls
  have hSample : sample now { s with agenda := ag, mbox := s.mbox.set l v } = sample now { s with agenda := ag } :=
    sample_set_mbox_of_falls (s := { s with agenda := ag }) hFalls v
  rw [step_of_agenda hAgenda, step_of_agenda (s := { s with mbox := s.mbox.set l v }) hAgenda]
  exact congrArg Host.Outcome.next hSample

/-! ### The shift -/

/-- The shift of R95 is the library's shift of one bit into a word of fixed width. -/
theorem shiftIn_eq_shiftConcat (r : Half) (bit : Bool) : shiftIn r bit = r.shiftConcat bit := by
  ext i hi
  cases bit <;> by_cases h0 : i = 0 <;> simp [shiftIn, BitVec.getElem_shiftConcat, h0]

/-- The shift in numbers: twice the register plus the bit, modulo 65536 (R95). -/
theorem shiftIn_toNat (r : Half) (bit : Bool) : (shiftIn r bit).toNat = (2 * r.toNat + bit.toNat) % 65536 := by
  rw [shiftIn_eq_shiftConcat, BitVec.toNat_shiftConcat, Nat.shiftLeft_eq, Nat.mul_comm, Nat.pow_one]

/-- The bit a mailbox holds is 1 exactly for High (R95). -/
theorem BitState.toNat_of_bit {v : BitState} {bit : Bool} (h : v.bit = some bit) :
    bit.toNat = if v = .high then 1 else 0 := by
  cases v <;> cases h <;> rfl

/-- Settles O31: the shift in numbers; up to 0x07FF twice the register plus the bit is below 65536 (R25, R95). -/
theorem shiftAppendsTheBit : Obligations.ShiftAppendsTheBit := by
  unfold Obligations.ShiftAppendsTheBit
  intro r v bit hBit
  rw [← BitState.toNat_of_bit hBit, shiftIn_toNat]
  refine ⟨rfl, fun hRegister => Nat.mod_eq_of_lt ?_⟩
  have hBound : r.toNat ≤ 0x07FF := hRegister
  have := Bool.toNat_le bit
  omega

/-! ### The frame byte -/

/-- A sum of bits, each times the power of two of its place, is the number with those bits. -/
theorem sum_toNat_mul_two_pow_eq_ofBits (f : Nat → Bool) (n : Nat) :
    ((List.range n).map fun i => (f i).toNat * 2 ^ i).sum = Nat.ofBits fun i : Fin n => f i := by
  induction n generalizing f with
  | zero => rfl
  | succ n ih =>
    have tail : ((List.range n).map fun i => (f (i + 1)).toNat * 2 ^ (i + 1)).sum =
        2 * ((List.range n).map fun i => (f (i + 1)).toNat * 2 ^ i).sum := by
      rw [← List.sum_map_mul_left]
      simp only [Nat.pow_succ', Nat.mul_left_comm]
    rw [ih fun i => f (i + 1)] at tail
    rw [List.range_succ_eq_map, List.map_cons, List.sum_cons, List.map_map, Nat.ofBits_succ, Nat.pow_zero,
      Nat.mul_one, Nat.add_comm]
    exact congrArg (· + (f 0).toNat) tail

/-- The sum of R97 is the number whose bit `i` is `r[9-i]`. -/
theorem frameByte_eq_ofBits (r : Half) :
    frameByte r = BitVec.ofNat 8 (Nat.ofBits fun i : Fin 8 => r.getLsbD (9 - i)) :=
  congrArg (BitVec.ofNat 8) (sum_toNat_mul_two_pow_eq_ofBits (fun i => r.getLsbD (9 - i)) 8)

/-- Settles O35: a number given by its bits has those bits (R97). -/
theorem frameByteReversesTheRegister : Obligations.FrameByteReversesTheRegister := by
  unfold Obligations.FrameByteReversesTheRegister
  intro r i hi
  rw [frameByte_eq_ofBits, BitVec.getLsbD_ofNat, Nat.testBit_ofBits_lt _ _ hi, decide_eq_true hi, Bool.true_and]

end Sys2Proof.Machine

/-! PROOFS. The scan translator family: the base mapping (R110), the key event (R112) and TRANSLATE (R113, R114). -/

namespace Sys2Proof.Config

/-- The check of the scan-code constants, as the constraints of R9. -/
theorem ScanConsts.valid_iff (c : ScanConsts) :
    c.valid = true ↔
      c.passMax ≤ 0x7F#8 ∧ c.passMax < c.extPrefix ∧ c.passMax < c.relPrefix ∧ c.relPrefix ≠ c.extPrefix ∧
        c.passMax < c.excByte ∧ c.excByte ≠ c.extPrefix ∧ c.excByte ≠ c.relPrefix ∧ c.excCode ≠ 0 ∧
        extMapValid c.extMap = true := by
  simp only [ScanConsts.valid, Bool.and_eq_true, decide_eq_true_eq, bne_iff_ne, and_assoc]

end Sys2Proof.Config

namespace Sys2Proof.Machine

/-! ### The base mapping -/

theorem baseMap_of_le {c : Config.ScanConsts} {b : Byte} (h : b ≤ c.passMax) : baseMap c b = some (b.setWidth 7) :=
  if_pos h

theorem baseMap_of_lt {c : Config.ScanConsts} {b : Byte} (h : c.passMax < b) :
    baseMap c b = if b = c.excByte then some c.excCode else none :=
  if_neg (BitVec.not_le.mpr h)

/-- Under valid constants a byte that passes through keeps its number: its high bit is 0 (R9, R110). -/
theorem toNat_setWidth_of_le_passMax {c : Config.ScanConsts} {b : Byte} (hValid : c.valid = true)
    (h : b ≤ c.passMax) : (b.setWidth 7).toNat = b.toNat := by
  obtain ⟨hPassMax, -⟩ := c.valid_iff.mp hValid
  have hBound : b ≤ 0x7F#8 := BitVec.le_trans h hPassMax
  exact (BitVec.toNat_setWidth 7 b).trans (Nat.mod_eq_of_lt (Nat.lt_succ_of_le hBound))

/-- Settles O39: above the threshold only the exception byte is left to ask for; at or below it the code is the byte
cut to 7 bits, which valid constants make lossless (R9, R110). -/
theorem baseMapPassesThrough : Obligations.BaseMapPassesThrough := by
  unfold Obligations.BaseMapPassesThrough
  refine fun c b => ⟨fun hPass => ?_, fun hAbove hExc => ?_, fun hAbove hNotExc => ?_⟩
  · exact ⟨_, baseMap_of_le hPass, fun hValid => toNat_setWidth_of_le_passMax hValid hPass⟩
  · rw [baseMap_of_lt hAbove, if_pos hExc]
  · rw [baseMap_of_lt hAbove, if_neg hNotExc]

/-! ### The key event -/

/-- A key event is the up/down flag in front of the code (R75): the OR of R112 meets no set bit. -/
theorem keyEvent_eq_cons (k : Code) (up : Bool) : keyEvent k up = BitVec.cons up k := by
  have hCode : k.setWidth 8 = BitVec.cons false k := by simp [BitVec.setWidth_succ]
  have hFlag : (if up then Config.keyUpFlag else 0x00#8) = BitVec.cons up 0#7 := by cases up <;> rfl
  rw [keyEvent, hCode, hFlag, BitVec.cons_or_cons, Bool.false_or, BitVec.or_zero]

/-- Settles O40: the push by definition; the code and the flag read back from the packed event (R75, R112). -/
theorem keyEventPacksCodeAndFlag : Obligations.KeyEventPacksCodeAndFlag := by
  unfold Obligations.KeyEventPacksCodeAndFlag
  refine fun k up => ⟨fun s => rfl, ?_, ?_⟩
  · rw [keyEvent_eq_cons, BitVec.setWidth_cons]
  · rw [keyEvent_eq_cons, BitVec.getLsbD_cons, if_pos rfl]

/-! ### TRANSLATE -/

theorem translateByte_of_idle {s : State} (h : s.kstate = .idle) (b : Byte) :
    translateByte b s = translateIdle b s := by
  rw [translateByte, h]

theorem translateByte_of_extended {s : State} (h : s.kstate = .extended) (b : Byte) :
    translateByte b s = translateExtended b s := by
  rw [translateByte, h]

/-- What an arm of TRANSLATE that emits writes: the mapped event into the queue, if there is one, and the translator's
state (R112). -/
theorem setKState_emitMapped (q : KState) (m : Option Code) (up : Bool) (s : State) :
    setKState q (emitMapped m up s) =
      { s with
        kq := match m with
          | some k => s.kq.push (keyEvent k up)
          | none => s.kq
        kstate := q } := by
  cases m <;> rfl

/-- Settles O41: the two prefixes only move the translator, every other byte is emitted through the base mapping
(R113). -/
theorem translateInIdle : Obligations.TranslateInIdle := by
  unfold Obligations.TranslateInIdle
  intro s b hIdle
  rw [translateByte_of_idle hIdle, translateIdle]
  split_ifs with hExt hRel
  · rfl
  · rfl
  · exact setKState_emitMapped .idle (baseMap s.params.scan b) false s

/-- Settles O42: Extended has one arm for every byte, which emits through the extended mapping (R114). -/
theorem translateInExtended : Obligations.TranslateInExtended := by
  unfold Obligations.TranslateInExtended
  intro s b hExtended
  exact (translateByte_of_extended hExtended b).trans (setKState_emitMapped .idle (extMap s.params.scan b) false s)

end Sys2Proof.Machine

/-! PROOFS. The key event queue family: what PUSH leaves in the queue (R130, R135). -/

namespace Sys2Proof.Machine

/-! ### PUSH, an equation per first empty slot -/

theorem KeyQueue.push_of_k0_empty {q : KeyQueue} (h0 : q.k0 = 0#8) (e : Byte) : q.push e = { q with k0 := e } :=
  if_pos h0

theorem KeyQueue.push_of_k1_empty {q : KeyQueue} (h0 : q.k0 ≠ 0#8) (h1 : q.k1 = 0#8) (e : Byte) :
    q.push e = { q with k1 := e } :=
  (if_neg h0).trans (if_pos h1)

theorem KeyQueue.push_of_k2_empty {q : KeyQueue} (h0 : q.k0 ≠ 0#8) (h1 : q.k1 ≠ 0#8) (h2 : q.k2 = 0#8) (e : Byte) :
    q.push e = { q with k2 := e } :=
  (if_neg h0).trans ((if_neg h1).trans (if_pos h2))

theorem KeyQueue.push_of_full {q : KeyQueue} (h0 : q.k0 ≠ 0#8) (h1 : q.k1 ≠ 0#8) (h2 : q.k2 ≠ 0#8) (e : Byte) :
    q.push e = q :=
  (if_neg h0).trans ((if_neg h1).trans (if_neg h2))

/-- PUSH on the state is PUSH on its queue, whose result a caller may know (R130). -/
theorem push_of_kq {s : State} {q q' : KeyQueue} {e : Byte} (hQueue : s.kq = q) (hPush : q.push e = q') :
    push e s = { s with kq := q' } := by
  rw [push, hQueue, hPush]

/-! ### The family's statements -/

/-- Settles O46: each clause is the queue's own equation for that first empty slot; the full queue's is the state
itself (R130). -/
theorem pushFillsTheFirstEmptySlot : Obligations.PushFillsTheFirstEmptySlot := by
  unfold Obligations.PushFillsTheFirstEmptySlot
  refine fun s e => ⟨fun h0 => ?_, fun h0 h1 => ?_, fun h0 h1 h2 => ?_, fun h0 h1 h2 => ?_⟩
  · exact push_of_kq rfl (KeyQueue.push_of_k0_empty h0 e)
  · exact push_of_kq rfl (KeyQueue.push_of_k1_empty h0 h1 e)
  · exact push_of_kq rfl (KeyQueue.push_of_k2_empty h0 h1 h2 e)
  · exact push_of_kq rfl (KeyQueue.push_of_full h0 h1 h2 e)

/-- Settles O48: the first three pushes each meet the next empty slot, because the event before is not the empty value;
the fourth meets a full queue (R135). -/
theorem fourPushesKeepTheFirstThree : Obligations.FourPushesKeepTheFirstThree := by
  unfold Obligations.FourPushesKeepTheFirstThree
  intro s e1 e2 e3 e4 hEmpty h1 h2 h3 _
  rw [push_of_kq hEmpty (KeyQueue.push_of_k0_empty rfl e1),
    push_of_kq rfl (KeyQueue.push_of_k1_empty h1 rfl e2),
    push_of_kq rfl (KeyQueue.push_of_k2_empty h1 h2 rfl e3),
    push_of_kq rfl (KeyQueue.push_of_full h1 h2 h3 e4)]

end Sys2Proof.Machine

/-! PROOFS. The mouse encoder family: what ENCODE leaves in the status byte under each mask (R143, R145, R148). -/

namespace Sys2Proof.Machine

/-! ### One axis, read under a mask -/

/-- An axis ORs in its overflow mask and its sign mask, each where its test holds (R143): the result under any mask. -/
theorem axisStatus_and (v : Half) (st sign ovf m : Byte) :
    axisStatus v st sign ovf &&& m =
      st &&& m ||| (if overflows v then ovf &&& m else 0#8) ||| (if isNegative v then sign &&& m else 0#8) := by
  unfold axisStatus
  split <;> split <;> simp only [BitVec.and_or_distrib_right, BitVec.or_zero]

/-- An axis leaves every bit outside its own two masks as it was. -/
theorem axisStatus_and_of_disjoint {sign ovf m : Byte} (hSign : sign &&& m = 0#8) (hOvf : ovf &&& m = 0#8) (v : Half)
    (st : Byte) : axisStatus v st sign ovf &&& m = st &&& m := by
  simp only [axisStatus_and, hSign, hOvf, ite_self, BitVec.or_zero]

/-- Over a clear sign bit an axis leaves its sign bit set exactly for a negative value (R145). -/
theorem axisStatus_and_sign {st sign ovf : Byte} (hClear : st &&& sign = 0#8) (hOvf : ovf &&& sign = 0#8) (v : Half) :
    axisStatus v st sign ovf &&& sign = if isNegative v then sign else 0#8 := by
  simp only [axisStatus_and, hClear, hOvf, ite_self, BitVec.or_zero, BitVec.zero_or, BitVec.and_self]

/-- An axis sets its overflow bit where the value overflows and carries it through where it does not (R143, R146). -/
theorem axisStatus_and_ovf {sign ovf : Byte} (hSign : sign &&& ovf = 0#8) (v : Half) (st : Byte) :
    axisStatus v st sign ovf &&& ovf = st &&& ovf ||| (if overflows v then ovf else 0#8) := by
  simp only [axisStatus_and, hSign, ite_self, BitVec.or_zero, BitVec.and_self]

/-! ### The encoded status byte, read under a mask -/

/-- The status byte without its sign bits, read under a mask: of the mask only the part outside them counts (R143). -/
theorem clearedSigns_and {m n : Byte} (h : ~~~(Config.signX ||| Config.signY) &&& m = n) (st : Byte) :
    st &&& ~~~(Config.signX ||| Config.signY) &&& m = st &&& n := by
  rw [BitVec.and_assoc, h]

theorem reportStatus_and_signX (x y : Half) (st : Byte) :
    reportStatus { x := x, y := y, status := st } &&& Config.signX = if isNegative x then Config.signX else 0#8 := by
  have hClear := (clearedSigns_and (m := Config.signX) (n := 0#8) rfl st).trans BitVec.and_zero
  rw [reportStatus, axisStatus_and_of_disjoint rfl rfl, axisStatus_and_sign hClear rfl]

theorem reportStatus_and_signY (x y : Half) (st : Byte) :
    reportStatus { x := x, y := y, status := st } &&& Config.signY = if isNegative y then Config.signY else 0#8 := by
  have hClear := (clearedSigns_and (m := Config.signY) (n := 0#8) rfl st).trans BitVec.and_zero
  exact axisStatus_and_sign ((axisStatus_and_of_disjoint rfl rfl x _).trans hClear) rfl y

theorem reportStatus_and_ovfX (x y : Half) (st : Byte) :
    reportStatus { x := x, y := y, status := st } &&& Config.ovfX =
      st &&& Config.ovfX ||| (if overflows x then Config.ovfX else 0#8) := by
  rw [reportStatus, axisStatus_and_of_disjoint rfl rfl, axisStatus_and_ovf rfl, clearedSigns_and (n := Config.ovfX) rfl]

/-! ### The family's statements -/

/-- A nonzero mask that stands exactly for a negative value is nonzero exactly for a negative value. -/
theorem ite_isNegative_ne_zero_iff {sign : Byte} (hSign : sign ≠ 0#8) (v : Half) :
    (if isNegative v then sign else 0#8) ≠ 0#8 ↔ v.toInt < 0 := by
  rw [ite_ne_right_iff, isNegative, decide_eq_true_iff, and_iff_left hSign]

/-- Settles O53: under each sign mask the report shows that axis's sign alone (R145). -/
theorem signBitMarksNegativeValues : Obligations.SignBitMarksNegativeValues := by
  unfold Obligations.SignBitMarksNegativeValues
  intro ⟨x, y, st⟩
  rw [reportStatus_and_signX, reportStatus_and_signY]
  exact ⟨ite_isNegative_ne_zero_iff (by decide) x, ite_isNegative_ne_zero_iff (by decide) y⟩

/-- Settles O54: under the two masks of the x axis the report does not depend on y; the three values of x are then
computed (R148). -/
theorem sourceMouseExamples : Obligations.SourceMouseExamples := by
  unfold Obligations.SourceMouseExamples
  intro y
  simp only [reportStatus_and_signX, reportStatus_and_ovfX]
  decide

end Sys2Proof.Machine

/-! PROOFS. The host command family: PING (R162) and the requests that answer bad-command (R163 to R171). -/

namespace Sys2Proof.Machine

/-- A byte emitted goes on the trace and waits for the next flush; the rest of the state is as it was (R14, R33). -/
theorem emit_eq (b : Byte) (s : State) :
    emit b s = { s with trace := s.trace ++ [.tx b], unflushed := s.unflushed ++ [b] } := rfl

/-- Each of the nine requests has the one effect of answering bad-command (R74, R163 to R171). -/
theorem exec_of_isBadCommand {i : Instr} (h : isBadCommand i = true) (s : State) :
    exec i s = .next (emit Config.badCommandCode s) := by
  rcases exec_cases i s with ⟨rfl, _⟩ | ⟨rfl, _⟩ | ⟨rfl, _⟩ | ⟨_, hExec⟩
  · cases h
  · cases h
  · cases h
  · exact hExec

/-- Settles O12: PING is the emit of its confirmation, and that writes the two fields (R162). -/
theorem pingAnswersWithItsConfirmation : Obligations.PingAnswersWithItsConfirmation := by
  unfold Obligations.PingAnswersWithItsConfirmation
  intro s
  have hExec : exec .ping s = .next (emit Config.confirmPing s) := rfl
  rw [hExec, emit_eq, Config.confirmPing]

/-- Settles O13: the eight are among the requests that answer bad-command (R163 to R170). -/
theorem unimplementedRequestsAnswerBadCommand : Obligations.UnimplementedRequestsAnswerBadCommand := by
  unfold Obligations.UnimplementedRequestsAnswerBadCommand
  intro i s hMem
  have hBad : isBadCommand i = true := by
    revert i
    decide
  rw [exec_of_isBadCommand hBad, emit_eq, Config.badCommandCode]

/-- Settles O14: a byte outside the codes decodes to the catch-all (R68), and the catch-all answers bad-command
whatever byte it carries (R171). -/
theorem unrecognizedAnswersBadCommand : Obligations.UnrecognizedAnswersBadCommand := by
  unfold Obligations.UnrecognizedAnswersBadCommand
  refine ⟨fun b hOutside => decodeReq_of_not_code ((isRequestCode_false_iff b).mpr hOutside), fun b s => ?_⟩
  have hBad : isBadCommand (.unrecognized b) = true := rfl
  rw [exec_of_isBadCommand hBad, emit_eq, Config.badCommandCode]

end Sys2Proof.Machine

/-! PROOFS. The reset family: which steps restart the device (R206). -/

namespace Sys2Proof.Machine

/-! ### A restart, read off the events a step puts on the trace -/

/-- Where the events put on the trace are known, a restart is one of them (R38). -/
theorem restartedBetween_iff_of_append {s t : State} {new : List TraceEvent} (h : t.trace = s.trace ++ new) :
    restartedBetween s t ↔ TraceEvent.restart ∈ new := by
  refine ⟨fun ⟨events, hTrace, hMem⟩ => ?_, fun hMem => ⟨new, h, hMem⟩⟩
  have hSame : events = new := List.append_cancel_left (hTrace.symm.trans h)
  exact hSame ▸ hMem

theorem not_restartedBetween_of_trace_eq {s t : State} (h : t.trace = s.trace) : ¬ restartedBetween s t := by
  rw [restartedBetween_iff_of_append (new := []) (by rw [h, List.append_nil])]
  exact List.not_mem_nil

theorem not_restartedBetween_self (s : State) : ¬ restartedBetween s s :=
  not_restartedBetween_of_trace_eq rfl

/-- Of the state before, a restart asks for the trace alone. -/
theorem restartedBetween_congr_left {s u t : State} (h : s.trace = u.trace) :
    restartedBetween s t ↔ restartedBetween u t := by
  rw [restartedBetween, h, restartedBetween]

/-! ### Which requests and which actions restart -/

theorem decodeReq_eq_reset_iff (b : Byte) : decodeReq b = .reset ↔ b = 0x41#8 := by
  revert b; decide

/-- Of the requests RESET alone restarts: the others only emit (R160 to R171). -/
theorem exec_restarts_iff {i : Instr} {s t : State} (h : exec i s = .next t) :
    restartedBetween s t ↔ i = .reset := by
  rcases exec_cases i s with ⟨rfl, hExec⟩ | ⟨rfl, hExec⟩ | ⟨rfl, hExec⟩ | ⟨hBad, hExec⟩ <;>
    (rw [hExec] at h; injection h with h; subst h)
  · rw [restartedBetween_iff_of_append (new := [.tx Config.confirmReset, .flush, .restart]) (by simp)]
    simp
  · rw [restartedBetween_iff_of_append (new := (ps2dataResponse s).map .tx) (by simp)]
    simp
  · simp [restartedBetween_iff_of_append (emit_trace Config.confirmPing s)]
  · have hNotReset : i ≠ .reset := by rintro rfl; cases hBad
    simp [restartedBetween_iff_of_append (emit_trace Config.badCommandCode s), badCommand, hNotReset]

/-- HOST_SERVICE restarts exactly where it takes the RESET request (R158, R160). -/
theorem hostService_restarts_iff {s t : State} (h : hostService s = .next t) :
    restartedBetween s t ↔ s.bootPending = false ∧ s.rx.head? = some 0x41#8 := by
  rcases hostService_cases s with ⟨hIdle, hService⟩ | ⟨b, rest, hBoot, hRx, ⟨_, hService⟩ | ⟨_, hService⟩⟩ <;>
    rw [hService] at h
  · injection h with h
    subst h
    rcases hIdle with hBoot | hRx
    · simp [not_restartedBetween_self, hBoot]
    · simp [not_restartedBetween_self, hRx]
  · cases h
  · have hTaken : restartedBetween s t ↔ restartedBetween { s with rx := rest } t := restartedBetween_congr_left rfl
    rw [hTaken, exec_restarts_iff h, decodeReq_eq_reset_iff]
    simp [hBoot, hRx]

/-- FRAME_POLL puts nothing or a mouse byte on the trace, so it does not restart (R102). -/
theorem framePoll_not_restarts (l : Line) (s : State) : ¬ restartedBetween s (framePoll l s) := by
  rcases framePoll_trace l s with hTrace | ⟨_, b, hTrace⟩
  · exact not_restartedBetween_of_trace_eq hTrace
  · simp [restartedBetween_iff_of_append hTrace]

theorem bootAnnounce_not_restarts (s : State) : ¬ restartedBetween s (bootAnnounce s) := by
  simp [restartedBetween_iff_of_append (bootAnnounce_trace s)]

/-- An action restarts exactly where it is HOST_SERVICE taking the RESET request or a transport error (R206). -/
theorem perform_restarts_iff {a : Action} {s t : State} (h : perform a s = .next t) :
    restartedBetween s t ↔
      (a = .hostService ∧ s.bootPending = false ∧ s.rx.head? = some 0x41#8) ∨ a = .rxError := by
  cases a
  case hostService => simp [hostService_restarts_iff h]
  all_goals (injection h with h; subst h)
  case rxError => simp [restartedBetween_iff_of_append (rxError_trace s)]
  case framePoll l =>
    split
    · simp [not_restartedBetween_self]
    · simp [framePoll_not_restarts]
  case bootAnnounce =>
    split
    · simp [bootAnnounce_not_restarts]
    · simp [not_restartedBetween_self]
  case sample now => simp [not_restartedBetween_of_trace_eq (sample_trace now s)]
  case rxByte b => simp [not_restartedBetween_of_trace_eq (receive_trace b s)]
  case mouseLoad x y st => simp [not_restartedBetween_of_trace_eq (mouseLoad_trace x y st s)]

/-! ### The family's statement -/

/-- Settles O18: a step is the next action on a state with the same trace, gate and received bytes, and of the actions
those two restart (R206). -/
theorem onlyResetAndTransportErrorRestart : Obligations.OnlyResetAndTransportErrorRestart := by
  unfold Obligations.OnlyResetAndTransportErrorRestart
  intro s t h
  rw [step_eq_perform] at h
  rw [← restartedBetween_congr_left (afterChoice_trace s), perform_restarts_iff h, afterChoice_bootPending,
    afterChoice_rx, servesNext]

end Sys2Proof.Machine

/-! PROOFS. The encoding round trip (R66 to R68, R78). -/

namespace Sys2Proof

/-- A well-formed request is what its byte decodes to (R67, R68). -/
theorem decodeReq_encodeByte {i : Instr} (h : i.wellFormed = true) : decodeReq (encodeByte i) = i := by
  cases i with
  | unrecognized b =>
    have hNotCode : isRequestCode b = false := by simpa [Instr.wellFormed] using h
    exact decodeReq_of_not_code hNotCode
  | _ => rfl

theorem encodeByte_decodeReq (b : Byte) : encodeByte (decodeReq b) = b := by
  rcases decodeReq_cases b with ⟨hByte, _⟩ | ⟨hDecode, _⟩
  · exact hByte.symm
  · rw [hDecode, encodeByte]

theorem decodeReq_wellFormed (b : Byte) : (decodeReq b).wellFormed = true := by
  revert b; decide

/-- Settles O3: decoding takes the one byte of the encoding, and that byte decodes to the request. -/
theorem decodeInvertsEncode : Obligations.DecodeInvertsEncode := by
  unfold Obligations.DecodeInvertsEncode
  intro i rest hWellFormed
  rw [encode, List.singleton_append, decode_cons, decodeReq_encodeByte hWellFormed]

/-- Settles O4: what `decode` answers is what the first byte decodes to, and that request's byte is the byte. -/
theorem encodeInvertsDecode : Obligations.EncodeInvertsDecode := by
  unfold Obligations.EncodeInvertsDecode
  intro bs rest i hDecode
  obtain ⟨b, rfl, rfl⟩ := decode_ok hDecode
  exact ⟨decodeReq_wellFormed b, by rw [encode, encodeByte_decodeReq, List.singleton_append]⟩

/-- Settles O1: a table word of eight bits is its one byte, decoded; the rows are then computed. -/
theorem requestWordsDecodeAsTabled : Obligations.RequestWordsDecodeAsTabled := by
  unfold Obligations.RequestWordsDecodeAsTabled
  have hRow : ∀ w, decodeTableWord 8 w = some (decodeReq (BitVec.ofNat 8 w)) := fun _ => rfl
  simp only [hRow]
  decide

end Sys2Proof

/-! PROOFS. What an action can do, said once: the inversion that the invariants and the frames below are read off. -/

namespace Sys2Proof.Machine

/-- The effect of an action on a state, one constructor per effect with what enables it: a poll-loop step that is not
enabled does nothing (log entry 7), and HOST_SERVICE has one of four effects, by the byte it takes (R158). -/
inductive Performed (s : State) : Action → State → Prop
  | notEnabled (p : PollStep) (h : ¬ p.enabled s) : Performed s p.action s
  | sample (now : Wires) : Performed s (.sample now) (sample now s)
  | framePoll (l : Line) (hBoot : s.bootPending = false) : Performed s (.framePoll l) (framePoll l s)
  | bootAnnounce (hBoot : s.bootPending = true) : Performed s .bootAnnounce (bootAnnounce s)
  | rxByte (b : Byte) : Performed s (.rxByte b) (receive b s)
  | mouseLoad (x y : Half) (st : Byte) : Performed s (.mouseLoad x y st) (mouseLoad x y st s)
  | rxError : Performed s .rxError (rxError s)
  | reset (rest : List Byte) (hBoot : s.bootPending = false) (hRx : s.rx = 0x41#8 :: rest) :
      Performed s .hostService (restart (flush (emit Config.confirmReset { s with rx := rest })))
  | ps2data (rest : List Byte) (hBoot : s.bootPending = false) (hRx : s.rx = 0x42#8 :: rest) :
      Performed s .hostService (emits (ps2dataResponse s) (collect { s with rx := rest }))
  | ping (rest : List Byte) (hBoot : s.bootPending = false) (hRx : s.rx = 0x4A#8 :: rest) :
      Performed s .hostService (emit Config.confirmPing { s with rx := rest })
  | badCommand (b : Byte) (rest : List Byte) (hBoot : s.bootPending = false) (hRx : s.rx = b :: rest)
      (hReset : b ≠ 0x41#8) (hPs2data : b ≠ 0x42#8) (hPing : b ≠ 0x4A#8) :
      Performed s .hostService (emit Config.badCommandCode { s with rx := rest })

theorem decodeReq_eq_ps2data_iff (b : Byte) : decodeReq b = .ps2data ↔ b = 0x42#8 := by
  revert b; decide

theorem decodeReq_eq_ping_iff (b : Byte) : decodeReq b = .ping ↔ b = 0x4A#8 := by
  revert b; decide

/-- A request that is served has one of the four effects. -/
theorem performed_of_exec {s t : State} {b : Byte} {rest : List Byte} (hBoot : s.bootPending = false)
    (hRx : s.rx = b :: rest) (h : exec (decodeReq b) { s with rx := rest } = .next t) :
    Performed s .hostService t := by
  rcases exec_cases (decodeReq b) { s with rx := rest } with
    ⟨hReq, hExec⟩ | ⟨hReq, hExec⟩ | ⟨hReq, hExec⟩ | ⟨hBad, hExec⟩ <;>
    (rw [hExec] at h; injection h with h; subst h)
  · exact .reset rest hBoot (by rw [hRx, (decodeReq_eq_reset_iff b).mp hReq])
  · exact .ps2data rest hBoot (by rw [hRx, (decodeReq_eq_ps2data_iff b).mp hReq])
  · exact .ping rest hBoot (by rw [hRx, (decodeReq_eq_ping_iff b).mp hReq])
  · refine .badCommand b rest hBoot hRx ?_ ?_ ?_ <;> (rintro rfl; cases hBad)

/-- Every action that answers a next state has one of these effects. -/
theorem performed_of_perform {a : Action} {s t : State} (h : perform a s = .next t) : Performed s a t := by
  cases a
  case hostService =>
    rcases hostService_cases s with ⟨hIdle, hService⟩ | ⟨b, rest, hBoot, hRx, ⟨_, hService⟩ | ⟨_, hService⟩⟩ <;>
      rw [perform, hService] at h
    · injection h with h
      subst h
      refine .notEnabled .hostService fun ⟨hBoot, hRx⟩ => ?_
      rcases hIdle with hPending | hEmpty
      · rw [hBoot] at hPending; cases hPending
      · exact hRx hEmpty
    · cases h
    · exact performed_of_exec hBoot hRx h
  all_goals (injection h with h; subst h)
  case framePoll l =>
    cases hBoot : s.bootPending
    · exact .framePoll l hBoot
    · cases l
      · exact .notEnabled .pollKbd (by simp [PollStep.enabled, hBoot])
      · exact .notEnabled .pollMouse (by simp [PollStep.enabled, hBoot])
  case bootAnnounce =>
    cases hBoot : s.bootPending
    · exact .notEnabled .bootAnnounce (by simp [PollStep.enabled, hBoot])
    · exact .bootAnnounce hBoot
  case sample now => exact .sample now
  case rxByte b => exact .rxByte b
  case mouseLoad x y st => exact .mouseLoad x y st
  case rxError => exact .rxError

/-- What a step can do: the next action's effect on the state with the choice made. -/
theorem performed_of_step {s t : State} (h : step s = .next t) : Performed (afterChoice s) (nextAction s) t :=
  performed_of_perform h

end Sys2Proof.Machine

/-! PROOFS. The state invariant: each operation keeps it, so every step and every run does (R9, R11, R25, R26, R29,
R134). -/

namespace Sys2Proof.Machine

/-! ### The parts of the invariant -/

theorem seed_registerOk : registerOk Config.seed := by
  unfold registerOk; decide

/-- PUSH fills the first empty slot, so no slot is left empty before an occupied one (R130, R134). -/
theorem KeyQueue.isPrefix_push {q : KeyQueue} (h : q.isPrefix) (e : Byte) : (q.push e).isPrefix := by
  obtain ⟨hFirst, hSecond⟩ := h
  rcases KeyQueue.push_cases e q with ⟨h0, hPush⟩ | ⟨h0, h1, hPush⟩ | ⟨h0, h1, h2, hPush⟩ | ⟨h0, h1, h2, hPush⟩ <;>
    rw [hPush]
  · exact ⟨fun _ => hFirst h0, hSecond⟩
  · exact ⟨fun h => absurd h h0, fun _ => hSecond h1⟩
  · exact ⟨fun h => absurd h h0, fun h => absurd h h1⟩
  · exact ⟨hFirst, hSecond⟩

theorem KeyQueue.isPrefix_empty : KeyQueue.isPrefix { k0 := 0#8, k1 := 0#8, k2 := 0#8 } :=
  ⟨fun _ => ⟨rfl, rfl⟩, fun _ => rfl⟩

/-! ### The invariant through each operation -/

/-- The invariant speaks of six fields alone. -/
theorem State.Inv.congr {s t : State} (h : s.Inv) (hSr : t.sr = s.sr) (hQueue : t.kq = s.kq)
    (hSession : t.session = s.session) (hBoot : t.bootStatus = s.bootStatus) (hKState : t.kstate = s.kstate)
    (hParams : t.params = s.params) : t.Inv where
  kbdRegister := hSr ▸ h.kbdRegister
  mouseRegister := hSr ▸ h.mouseRegister
  queue := hQueue ▸ h.queue
  session := hSession ▸ h.session
  bootBit := hBoot ▸ h.bootBit
  noExtendedRelease := by rw [hParams, hKState]; exact h.noExtendedRelease
  constants := hParams ▸ h.constants

theorem State.Inv.afterChoice {s : State} (h : s.Inv) : (afterChoice s).Inv :=
  h.congr (by simp) (by simp) (by simp) (by simp) (by simp) (by simp)

/-- A restart gives every field its reset value and keeps the parameters, so it needs only valid constants (R205). -/
theorem restart_inv {s : State} (hConstants : s.params.scan.valid = true) : (restart s).Inv where
  kbdRegister := seed_registerOk
  mouseRegister := seed_registerOk
  queue := KeyQueue.isPrefix_empty
  session := rfl
  bootBit := bootStatus_bit7 s.draws
  noExtendedRelease := by simp
  constants := hConstants

theorem State.Inv.collect {s : State} (h : s.Inv) : (collect s).Inv :=
  { h with
    queue := by
      rw [collect_kq]
      split
      · exact KeyQueue.isPrefix_empty
      · exact h.queue }

theorem State.Inv.takeBit {s : State} (h : s.Inv) (l : Line) {r : Half} (hRegister : registerOk r) :
    (takeBit l r s).Inv :=
  { h with
    kbdRegister := by cases l; exacts [hRegister, h.kbdRegister]
    mouseRegister := by cases l; exacts [h.mouseRegister, hRegister] }

theorem State.Inv.push {s : State} (h : s.Inv) (e : Byte) : (push e s).Inv :=
  { h with queue := KeyQueue.isPrefix_push h.queue e }

theorem State.Inv.setKState {s : State} (h : s.Inv) {k : KState}
    (hKState : s.params.options.fixExtRelease = false → k ≠ .extendedRelease) : (setKState k s).Inv :=
  { h with noExtendedRelease := hKState }

theorem State.Inv.translateByte {s : State} (h : s.Inv) (b : Byte) : (translateByte b s).Inv := by
  have hKState := translateByte_kstate_ne_extendedRelease b s
  obtain ⟨k, hTranslate | ⟨e, hTranslate⟩⟩ := translateByte_cases b s <;> rw [hTranslate] at hKState ⊢
  · exact h.setKState hKState
  · exact (h.push e).setKState hKState

theorem State.Inv.deliver {s : State} (h : s.Inv) (l : Line) (b : Byte) : (deliver l b s).Inv := by
  cases l
  · exact h.translateByte b
  · exact h.congr rfl rfl rfl rfl rfl rfl

theorem State.Inv.register {s : State} (h : s.Inv) (l : Line) : registerOk (s.sr.get l) := by
  cases l
  · exact h.kbdRegister
  · exact h.mouseRegister

theorem State.Inv.framePoll {s : State} (h : s.Inv) (l : Line) : (framePoll l s).Inv := by
  have hSeeded := h.takeBit l seed_registerOk
  rcases framePoll_cases l s with ⟨_, hPoll⟩ | ⟨bit, _, ⟨hShort, hPoll⟩ | ⟨_, _, hPoll⟩ | ⟨_, _, hPoll⟩⟩ <;> rw [hPoll]
  · exact h
  · obtain ⟨hLow, hHigh⟩ := h.register l
    exact h.takeBit l (shiftIn_registerBound _ bit hLow hHigh hShort)
  · exact hSeeded
  · exact hSeeded.deliver l _

/-! ### Every step and every run -/

theorem Performed.inv {s t : State} {a : Action} (hPerformed : Performed s a t) (h : s.Inv) : t.Inv := by
  cases hPerformed with
  | notEnabled => exact h
  | framePoll l => exact h.framePoll l
  | rxError => exact restart_inv h.constants
  | reset rest => exact restart_inv h.constants
  | ps2data rest =>
    have hTaken : State.Inv { s with rx := rest } := h.congr rfl rfl rfl rfl rfl rfl
    exact hTaken.collect.congr rfl rfl rfl rfl rfl rfl
  | _ => exact h.congr rfl rfl rfl rfl rfl rfl

/-- Settles O23: choosing what comes next keeps the invariant, and so does every effect an action has. -/
theorem everyStepKeepsTheInvariant : Obligations.EveryStepKeepsTheInvariant := by
  unfold Obligations.EveryStepKeepsTheInvariant
  exact fun s t hInv hStep => (performed_of_step hStep).inv hInv.afterChoice

/-- With the session count 0 a step completes and leaves the session count 0 (R29, R185). -/
theorem step_completes {s : State} (h : s.session = 0#8) : ∃ t, step s = .next t ∧ t.session = 0#8 := by
  have hSession : (afterChoice s).session = 0#8 := by rw [afterChoice_session, h]
  obtain ⟨t, hStep⟩ := perform_completes (nextAction s) hSession
  obtain ⟨-, -, -, hKept⟩ := perform_keeps_choice hStep
  exact ⟨t, hStep, hKept hSession⟩

/-- Settles O25, by induction on the number of steps: the invariant has the session count 0, so the step completes, and
the state it answers has the invariant again. -/
theorem noRunStops : Obligations.NoRunStops := by
  unfold Obligations.NoRunStops
  intro n
  induction n with
  | zero => exact fun s hInv => ⟨s, rfl, hInv⟩
  | succ n ih =>
    intro s hInv
    obtain ⟨u, hStep, -⟩ := step_completes hInv.session
    rw [runSteps_succ_of_next hStep]
    exact ih u (everyStepKeepsTheInvariant s u hInv hStep)

end Sys2Proof.Machine

/-! PROOFS. What the transport owes the host: each operation keeps it, so every step does (R33, D18). -/

namespace Sys2Proof.Machine

/-- What the transport owes speaks of the bytes emitted, the two sides of the transport and the loss parameter alone. -/
theorem State.Delivery.congr {s t : State} (h : s.Delivery) (hWire : t.wire = s.wire)
    (hUnflushed : t.unflushed = s.unflushed) (hTrace : txBytes t.trace = txBytes s.trace)
    (hParams : t.params = s.params) : t.Delivery where
  inOrder := by rw [hWire, hUnflushed, hTrace]; exact h.inOrder
  noLoss := by rw [hWire, hUnflushed, hTrace, hParams]; exact h.noLoss

theorem State.Delivery.afterChoice {s : State} (h : s.Delivery) : (afterChoice s).Delivery :=
  h.congr (by simp) (by simp) (by simp) (by simp)

theorem State.Delivery.emits {s : State} (h : s.Delivery) (bs : List Byte) : (emits bs s).Delivery where
  inOrder := by simpa [← List.append_assoc] using h.inOrder
  noLoss hNoLoss := by simpa [← List.append_assoc] using h.noLoss hNoLoss

/-- A flush moves the unflushed bytes behind the wire's, so what the host is owed stays the same (R33). -/
theorem State.Delivery.flush {s : State} (h : s.Delivery) : (flush s).Delivery where
  inOrder := by simpa using h.inOrder
  noLoss hNoLoss := by simpa using h.noLoss hNoLoss

theorem State.Delivery.restart {s : State} (h : s.Delivery) : (restart s).Delivery :=
  h.congr rfl rfl (by simp) rfl

theorem transportLoss_unflushed_sublist (s : State) : (transportLoss s).unflushed.Sublist s.unflushed := by
  rw [transportLoss_unflushed]
  split
  · exact survivors_sublist _ 0 s.unflushed
  · exact List.Sublist.refl _

theorem transportLoss_unflushed_of_no_loss {s : State} (h : s.params.txLoss = false) :
    (transportLoss s).unflushed = s.unflushed := by
  simp [h]

/-- A transport error leaves some of the unflushed bytes, and all of them where the transport loses none (R207). -/
theorem State.Delivery.transportLoss {s : State} (h : s.Delivery) : (transportLoss s).Delivery where
  inOrder := ((transportLoss_unflushed_sublist s).append_left s.wire).trans h.inOrder
  noLoss hNoLoss := by
    rw [transportLoss_wire, transportLoss_unflushed_of_no_loss (s := s) hNoLoss]
    exact h.noLoss hNoLoss

theorem State.Delivery.framePoll {s : State} (h : s.Delivery) (l : Line) : (framePoll l s).Delivery := by
  obtain ⟨hParams, -, -, -, -, hWire, hUnflushed, -⟩ := framePoll_unchanged l s
  refine h.congr hWire hUnflushed ?_ hParams
  rcases framePoll_trace l s with hTrace | ⟨_, b, hTrace⟩ <;> simp [hTrace]

theorem Performed.delivery {s t : State} {a : Action} (hPerformed : Performed s a t) (h : s.Delivery) :
    t.Delivery := by
  have hTaken : ∀ rest, State.Delivery { s with rx := rest } := fun _ => h.congr rfl rfl rfl rfl
  cases hPerformed with
  | framePoll l => exact h.framePoll l
  | bootAnnounce => exact (h.emits [Config.bootedCode, s.bootStatus]).congr rfl rfl rfl rfl
  | rxError => exact h.transportLoss.restart
  | reset rest => exact ((hTaken rest).emits [Config.confirmReset]).flush.restart
  | ps2data rest =>
    have hCollected : (collect { s with rx := rest }).Delivery := (hTaken rest).congr rfl rfl rfl rfl
    exact hCollected.emits (ps2dataResponse s)
  | ping rest => exact (hTaken rest).emits [Config.confirmPing]
  | badCommand b rest => exact (hTaken rest).emits [Config.badCommandCode]
  | _ => exact h.congr rfl rfl rfl rfl

/-- Settles O24: choosing what comes next keeps what the transport owes, and so does every effect an action has. -/
theorem everyStepKeepsDelivery : Obligations.EveryStepKeepsDelivery := by
  unfold Obligations.EveryStepKeepsDelivery
  exact fun s t hDelivery hStep => (performed_of_step hStep).delivery hDelivery.afterChoice

/-- Settles O20: the step is the error restart of R187, which leaves the flushed bytes and, of the others, what the
transport error leaves. -/
theorem errorRestartLosesOnlyUnflushedBytes : Obligations.ErrorRestartLosesOnlyUnflushedBytes := by
  unfold Obligations.ErrorRestartLosesOnlyUnflushedBytes
  intro s t hNext hStep
  rw [step_eq_perform, hNext] at hStep
  injection hStep with hStep
  subst hStep
  have hSublist := transportLoss_unflushed_sublist (afterChoice s)
  have hAll := transportLoss_unflushed_of_no_loss (s := afterChoice s)
  rw [afterChoice_unflushed] at hSublist hAll
  rw [afterChoice_params] at hAll
  exact ⟨by simp, hSublist, hAll⟩

/-- Settles O22: the registers hold the seed, the queue is empty, the session count is 0, the constants are valid by R9,
and nothing has been emitted. -/
theorem powerOnHasTheInvariants : Obligations.PowerOnHasTheInvariants := by
  unfold Obligations.PowerOnHasTheInvariants
  refine ⟨?_, ⟨List.Sublist.refl _, fun _ => rfl⟩⟩
  exact
    { kbdRegister := seed_registerOk
      mouseRegister := seed_registerOk
      queue := KeyQueue.isPrefix_empty
      session := rfl
      bootBit := bootStatus_bit7 0
      noExtendedRelease := fun _ h => KState.noConfusion h
      constants := scan_valid }

/-- Settles O21: each field by the definition of the power-on state; the drawn byte has bit 7 set (R11). -/
theorem powerOnIsTheResetColumn : Obligations.PowerOnIsTheResetColumn := by
  unfold Obligations.PowerOnIsTheResetColumn
  exact ⟨rfl, rfl, rfl, rfl, rfl, rfl, rfl, rfl, bootStatus_bit7 0, rfl, rfl, rfl, rfl, rfl, rfl⟩

end Sys2Proof.Machine

/-! PROOFS. The boot gate, the messages and the frames of a step, read off the effects of an action. -/

namespace Sys2Proof.Machine

/-! ### The next action, named -/

/-- Settles O5: the head of the agenda is HOST_SERVICE, which takes the byte and asks for the session count 0 (R158). -/
theorem stepRunsDecodedRequest : Obligations.StepRunsDecodedRequest := by
  unfold Obligations.StepRunsDecodedRequest
  intro s ag i rest hAgenda hBoot hDecode
  rw [step_of_agenda hAgenda, perform, hostService]
  simp only [hBoot, hDecode]
  exact ⟨fun hSession => if_pos hSession, fun hSession => if_neg hSession⟩

/-- Settles O6: the two ways a step goes with an empty agenda. -/
theorem emptyAgendaDrawsAnAction : Obligations.EmptyAgendaDrawsAnAction := by
  unfold Obligations.EmptyAgendaDrawsAnAction
  exact fun s hAgenda => ⟨step_of_free hAgenda, step_of_due hAgenda⟩

theorem perform_framePoll_of_pending {s : State} (h : s.bootPending = true) (l : Line) :
    perform (.framePoll l) s = .next s :=
  congrArg Host.Outcome.next (if_pos h)

theorem perform_framePoll_of_announced {s : State} (h : s.bootPending = false) (l : Line) :
    perform (.framePoll l) s = .next (framePoll l s) :=
  congrArg Host.Outcome.next (if_neg (by simp [h]))

theorem perform_bootAnnounce_of_pending {s : State} (h : s.bootPending = true) :
    perform .bootAnnounce s = .next (bootAnnounce s) :=
  congrArg Host.Outcome.next (if_pos h)

theorem hostService_of_pending {s : State} (h : s.bootPending = true) : hostService s = .next s :=
  if_pos h

/-- Settles O7: the gate stands in FRAME_POLL and HOST_SERVICE alone (R157). -/
theorem bootGateHoldsThePollLoop : Obligations.BootGateHoldsThePollLoop := by
  unfold Obligations.BootGateHoldsThePollLoop
  intro s a ag hBoot hAgenda
  rw [step_of_agenda hAgenda]
  refine ⟨?_, ?_, ?_, ?_⟩
  · rintro (⟨l, rfl⟩ | rfl)
    · exact perform_framePoll_of_pending (s := { s with agenda := ag }) hBoot l
    · exact hostService_of_pending (s := { s with agenda := ag }) hBoot
  · rintro now rfl; rfl
  · rintro x y st rfl; rfl
  · rintro rfl; rfl

/-- Settles O9: the step is `receive`, which writes the receive stream alone (R34). -/
theorem receivedBytesQueueInOrder : Obligations.ReceivedBytesQueueInOrder := by
  unfold Obligations.ReceivedBytesQueueInOrder
  exact fun s b ag hAgenda => step_of_agenda hAgenda

/-- Settles O50: the step is `mouseLoad`, which writes the accumulator alone (R37). -/
theorem mouseLoadSetsTheAccumulator : Obligations.MouseLoadSetsTheAccumulator := by
  unfold Obligations.MouseLoadSetsTheAccumulator
  exact fun s x y st ag hAgenda => step_of_agenda hAgenda

/-- Settles O19: the step is the restart of what the transport error leaves (R187, R205). -/
theorem transportErrorRestartsSilently : Obligations.TransportErrorRestartsSilently := by
  unfold Obligations.TransportErrorRestartsSilently
  exact fun s ag hAgenda => step_of_agenda hAgenda

/-- Settles O15: with the boot pending the step is BOOT_ANNOUNCE, enabled (R156). -/
theorem bootAnnounceSendsBooted : Obligations.BootAnnounceSendsBooted := by
  unfold Obligations.BootAnnounceSendsBooted
  intro s ag hAgenda hBoot
  exact (step_of_agenda hAgenda).trans (perform_bootAnnounce_of_pending (s := { s with agenda := ag }) hBoot)

/-! ### Requests, each the whole next state -/

/-- RESET after its confirmation and flush: three events on the trace, and all emitted bytes on the wire (R160). -/
theorem flush_emit_eq (b : Byte) (s : State) :
    flush (emit b s) =
      { s with trace := s.trace ++ [.tx b, .flush], wire := s.wire ++ s.unflushed ++ [b], unflushed := [] } := by
  simp [flush, emit_eq]

/-- Settles O10: the restart of the state after the confirmation and the flush (R160, R205). -/
theorem resetConfirmsFlushesRestarts : Obligations.ResetConfirmsFlushesRestarts := by
  unfold Obligations.ResetConfirmsFlushesRestarts
  intro s
  have hExec : exec .reset s = .next (restart (flush (emit Config.confirmReset s))) := rfl
  rw [hExec, flush_emit_eq]
  simp [restart, Config.confirmReset, Config.seed]

/-- Settles O11: PS2DATA is COLLECT and the emit of the seven bytes, which are those of the state before it (R161). -/
theorem ps2dataSendsSevenBytes : Obligations.Ps2dataSendsSevenBytes := by
  unfold Obligations.Ps2dataSendsSevenBytes
  exact fun s => rfl

/-! ### What a step outputs -/

/-- HOST_SERVICE takes a byte of the state with the choice made, which is the byte that is served next. -/
theorem servesNext_of_taken {s : State} {b : Byte} {rest : List Byte} (hNext : nextAction s = .hostService)
    (hBoot : (afterChoice s).bootPending = false) (hRx : (afterChoice s).rx = b :: rest) : servesNext s b := by
  rw [afterChoice_bootPending] at hBoot
  rw [afterChoice_rx] at hRx
  exact ⟨hNext, hBoot, by rw [hRx, List.head?_cons]⟩

/-- Settles O17: the events of each effect, read off its trace (R70, R73, R173). -/
theorem everyStepOutputsAListedMessage : Obligations.EveryStepOutputsAListedMessage := by
  unfold Obligations.EveryStepOutputsAListedMessage
  intro s t hStep
  have hPerformed := performed_of_step hStep
  rw [← afterChoice_trace s]
  generalize hNext : nextAction s = a at hPerformed
  cases hPerformed with
  | framePoll l =>
    rcases framePoll_trace l (afterChoice s) with hTrace | ⟨rfl, b, hTrace⟩
    · exact ⟨[], by rw [hTrace, List.append_nil], .inl rfl⟩
    · exact ⟨_, hTrace, .inr (.inr (.inl ⟨rfl, b, rfl⟩))⟩
  | bootAnnounce hBoot =>
    rw [afterChoice_bootPending] at hBoot
    refine ⟨_, bootAnnounce_trace _, .inr (.inr (.inr (.inl ⟨rfl, hBoot, ?_⟩)))⟩
    rw [afterChoice_bootStatus, Config.bootedCode]
  | rxError => exact ⟨_, rxError_trace _, .inr (.inl ⟨rfl, rfl⟩)⟩
  | reset rest hBoot hRx =>
    refine ⟨[.tx 0x61#8, .flush, .restart], ?_, .inr (.inr (.inr (.inr ⟨_, servesNext_of_taken hNext hBoot hRx, rfl⟩)))⟩
    simp [Config.confirmReset]
  | ps2data rest hBoot hRx =>
    refine ⟨_, emits_trace _ _, .inr (.inr (.inr (.inr ⟨_, servesNext_of_taken hNext hBoot hRx, ?_⟩)))⟩
    simp [ps2dataResponse, encodeReport, Config.confirmPs2data]
  | ping rest hBoot hRx =>
    exact ⟨_, emit_trace _ _, .inr (.inr (.inr (.inr ⟨_, servesNext_of_taken hNext hBoot hRx, rfl⟩)))⟩
  | badCommand b rest hBoot hRx hReset hPs2data hPing =>
    refine ⟨_, emit_trace _ _, .inr (.inr (.inr (.inr ⟨b, servesNext_of_taken hNext hBoot hRx, ?_⟩)))⟩
    simp only [if_neg hReset, if_neg hPs2data, if_neg hPing, Config.badCommandCode]
  | _ => exact ⟨[], (List.append_nil _).symm, .inl rfl⟩

/-- HOST_SERVICE next, enabled and with the session count 0: the step is the request of the byte it takes (R158). -/
theorem step_of_servesNext {s : State} {b : Byte} (hServes : servesNext s b) (hSession : s.session = 0#8) :
    step s = exec (decodeReq b) { afterChoice s with rx := s.rx.tail } := by
  obtain ⟨hNext, hBoot, hHead⟩ := hServes
  obtain ⟨rest, hRx⟩ := List.head?_eq_some_iff.mp hHead
  rw [step_eq_perform, hNext, perform, hostService]
  simp [hBoot, hRx, hSession]

/-- The response of a request: seven bytes for PS2DATA and one for every other; RESET alone discards the received
bytes (R172). -/
theorem exec_responds (b : Byte) (s : State) :
    ∃ t response, exec (decodeReq b) s = .next t ∧ txBytes t.trace = txBytes s.trace ++ response ∧
      response.length = (if b = 0x42#8 then 7 else 1) ∧ t.rx = (if b = 0x41#8 then [] else s.rx) := by
  rcases exec_cases (decodeReq b) s with ⟨hReq, hExec⟩ | ⟨hReq, hExec⟩ | ⟨hReq, hExec⟩ | ⟨hBad, hExec⟩
  · obtain rfl := (decodeReq_eq_reset_iff b).mp hReq
    exact ⟨_, [Config.confirmReset], hExec, by simp, rfl, rfl⟩
  · obtain rfl := (decodeReq_eq_ps2data_iff b).mp hReq
    exact ⟨_, ps2dataResponse s, hExec, by simp, rfl, rfl⟩
  · obtain rfl := (decodeReq_eq_ping_iff b).mp hReq
    exact ⟨_, [Config.confirmPing], hExec, by simp, rfl, rfl⟩
  · have hReset : b ≠ 0x41#8 := by rintro rfl; cases hBad
    have hPs2data : b ≠ 0x42#8 := by rintro rfl; cases hBad
    refine ⟨_, [Config.badCommandCode], hExec, by simp [badCommand], ?_, ?_⟩
    · rw [if_neg hPs2data]; rfl
    · rw [if_neg hReset]; rfl

/-- Settles O16: the step is the request of the byte taken, and that request responds once (R172). -/
theorem everyRequestGetsOneResponse : Obligations.EveryRequestGetsOneResponse := by
  unfold Obligations.EveryRequestGetsOneResponse
  intro s b hServes hSession
  have hStep := step_of_servesNext hServes hSession
  obtain ⟨t, response, hExec, hTrace, hLength, hRx⟩ := exec_responds b { afterChoice s with rx := s.rx.tail }
  obtain ⟨-, -, -, hKept⟩ := exec_keeps_choice hExec
  rw [afterChoice_trace] at hTrace
  rw [afterChoice_session] at hKept
  exact ⟨t, response, hStep.trans hExec, hTrace, hLength, hRx, hKept hSession⟩

/-- Settles O8: of the effects an action has while the boot is pending, BOOT_ANNOUNCE alone emits a byte (R157). -/
theorem bootedIndicationComesFirst : Obligations.BootedIndicationComesFirst := by
  unfold Obligations.BootedIndicationComesFirst
  intro s t hPending hStep
  have hPerformed := performed_of_step hStep
  have hNotAnnounced : (afterChoice s).bootPending ≠ false := by rw [afterChoice_bootPending, hPending]; decide
  rw [← afterChoice_bootPending s] at hPending
  rw [← afterChoice_trace s, ← afterChoice_bootStatus s]
  generalize nextAction s = a at hPerformed
  cases hPerformed with
  | framePoll _ hBoot => exact absurd hBoot hNotAnnounced
  | reset _ hBoot => exact absurd hBoot hNotAnnounced
  | ps2data _ hBoot => exact absurd hBoot hNotAnnounced
  | ping _ hBoot => exact absurd hBoot hNotAnnounced
  | badCommand _ _ hBoot => exact absurd hBoot hNotAnnounced
  | bootAnnounce => exact .inr ⟨rfl, rfl, rfl⟩
  | rxError => exact .inl ⟨rfl, by simp⟩
  | _ => exact .inl ⟨hPending, rfl⟩

/-! ### What a step leaves alone -/

/-- No effect writes a parameter (R32). -/
theorem Performed.params {s t : State} {a : Action} (hPerformed : Performed s a t) : t.params = s.params := by
  cases hPerformed with
  | framePoll l =>
    obtain ⟨hParams, -⟩ := framePoll_unchanged l s
    exact hParams
  | _ => rfl

/-- Settles O26: neither the choice of the next action nor its effect writes a parameter. -/
theorem parametersNeverChange : Obligations.ParametersNeverChange := by
  unfold Obligations.ParametersNeverChange
  exact fun s t hStep => (performed_of_step hStep).params.trans (afterChoice_params s)

/-- A restart puts its event on the trace, whatever events came before it in the step (R38). -/
theorem restartedBetween_restart {s u : State} {new : List TraceEvent} (h : u.trace = s.trace ++ new) :
    restartedBetween s (restart u) :=
  ⟨new ++ [.restart], by rw [restart_trace, h, List.append_assoc], by simp⟩

theorem restartedBetween_rxError (s : State) : restartedBetween s (rxError s) :=
  restartedBetween_restart (u := transportLoss s) (List.append_nil _).symm

theorem restartedBetween_execReset (s : State) (rest : List Byte) :
    restartedBetween s (restart (flush (emit Config.confirmReset { s with rx := rest }))) :=
  restartedBetween_restart (new := [.tx Config.confirmReset, .flush]) (by simp)

/-- A full queue holds its events through FRAME_POLL: a push drops its event (R130). -/
theorem framePoll_kq_of_full {s : State} (h0 : s.kq.k0 ≠ 0#8) (h1 : s.kq.k1 ≠ 0#8) (h2 : s.kq.k2 ≠ 0#8) (l : Line) :
    (framePoll l s).kq = s.kq := by
  rcases framePoll_cases l s with ⟨_, hPoll⟩ | ⟨bit, _, ⟨_, hPoll⟩ | ⟨_, _, hPoll⟩ | ⟨_, _, hPoll⟩⟩ <;> rw [hPoll]
  · rfl
  · rfl
  · cases l with
    | mouse => rfl
    | kbd =>
      obtain ⟨k, hByte | ⟨e, hByte⟩⟩ := translateByte_cases (frameByte (shiftIn (s.sr.get .kbd) bit))
        (takeBit .kbd Config.seed s) <;> rw [deliver, hByte]
      · rfl
      · exact KeyQueue.push_of_full h0 h1 h2 e

/-- Settles O49: FRAME_POLL drops its event on a full queue, PS2DATA clears only with `CLEAR_ON_READ`, and what else
writes the queue is a restart (R132). -/
theorem fullQueueStaysUntilRestart : Obligations.FullQueueStaysUntilRestart := by
  unfold Obligations.FullQueueStaysUntilRestart
  intro s t hKeep h0 h1 h2 hStep
  have hPerformed := performed_of_step hStep
  rw [restartedBetween_congr_left (afterChoice_trace s).symm]
  rw [← afterChoice_kq s] at h0 h1 h2 ⊢
  generalize nextAction s = a at hPerformed
  cases hPerformed with
  | framePoll l => exact .inl (framePoll_kq_of_full h0 h1 h2 l)
  | rxError => exact .inr (restartedBetween_rxError _)
  | reset rest => exact .inr (restartedBetween_execReset _ rest)
  | ps2data => exact .inl (by simp [hKeep])
  | _ => exact .inl rfl

/-- Settles O51: of the effects a mouse load and the two restarts write the accumulator (R28). -/
theorem accumulatorHasOneWriter : Obligations.AccumulatorHasOneWriter := by
  unfold Obligations.AccumulatorHasOneWriter
  intro s t hStep
  have hPerformed := performed_of_step hStep
  rw [restartedBetween_congr_left (afterChoice_trace s).symm, ← afterChoice_acc s]
  generalize nextAction s = a at hPerformed
  cases hPerformed with
  | framePoll l =>
    obtain ⟨-, hAcc, -⟩ := framePoll_unchanged l (afterChoice s)
    exact .inl hAcc
  | mouseLoad x y st => exact .inr (.inr ⟨x, y, st, rfl, rfl⟩)
  | rxError => exact .inr (.inl (restartedBetween_rxError _))
  | reset rest => exact .inr (.inl (restartedBetween_execReset _ rest))
  | _ => exact .inl rfl

end Sys2Proof.Machine

/-! PROOFS. Runs of the poll loop: each of its steps comes up, so every run is weakly fair and every boot is announced
(R59, R157). -/

namespace Sys2Proof.Machine

/-- With the session count 0 a step leaves of the choice of steps what the choice itself left (R59). -/
theorem step_keeps_afterChoice {s : State} (hSession : s.session = 0#8) :
    ∃ t, step s = .next t ∧ t.session = 0#8 ∧ t.agenda = (afterChoice s).agenda ∧ t.owed = (afterChoice s).owed ∧
      t.patience = (afterChoice s).patience := by
  obtain ⟨t, hStep, hZero⟩ := step_completes hSession
  obtain ⟨hAgenda, hOwed, hPatience, -⟩ := perform_keeps_choice hStep
  exact ⟨t, hStep, hZero, hAgenda, hOwed, hPatience⟩

/-- Until the owed step is due, each choice takes one action off the agenda or one unit of patience. -/
theorem afterChoice_of_not_due {s : State} {m : Nat} (h : s.agenda.length + s.patience = m + 1) :
    (afterChoice s).agenda.length + (afterChoice s).patience = m ∧ (afterChoice s).owed = s.owed := by
  cases hAgenda : s.agenda with
  | cons a rest =>
    have hChoice : afterChoice s = { s with agenda := rest } := by simp [afterChoice, hAgenda]
    rw [hAgenda, List.length_cons] at h
    rw [hChoice]
    exact ⟨by dsimp only; omega, rfl⟩
  | nil =>
    rw [hAgenda, List.length_nil, Nat.zero_add] at h
    have hPatience : s.patience ≠ 0 := by omega
    have hChoice : afterChoice s = { s with patience := s.patience - 1, draws := s.draws + 1 } := by
      simp [afterChoice, hAgenda, hPatience]
    rw [hChoice]
    exact ⟨by simp [hAgenda, h], rfl⟩

/-- The owed step falls due: the agenda and the patience run out, and nothing before makes another step owed (R59). -/
theorem runSteps_until_due {s : State} (hSession : s.session = 0#8) :
    ∃ n t, runSteps n s = .next t ∧ t.session = 0#8 ∧ t.agenda = [] ∧ t.patience = 0 ∧ t.owed = s.owed := by
  induction hLeft : s.agenda.length + s.patience generalizing s with
  | zero =>
    obtain ⟨hAgenda, hPatience⟩ := Nat.add_eq_zero_iff.mp hLeft
    exact ⟨0, s, rfl, hSession, List.length_eq_zero_iff.mp hAgenda, hPatience, rfl⟩
  | succ m ih =>
    obtain ⟨hLess, hSame⟩ := afterChoice_of_not_due hLeft
    obtain ⟨u, hStep, hZero, hAgenda, hOwed, hPatience⟩ := step_keeps_afterChoice hSession
    obtain ⟨n, t, hRun, hZeroLast, hEmpty, hOut, hOwedLast⟩ := ih hZero (by rw [hAgenda, hPatience, hLess])
    exact ⟨n + 1, t, (runSteps_succ_of_next hStep).trans hRun, hZeroLast, hEmpty, hOut, by rw [hOwedLast, hOwed, hSame]⟩

/-- The poll-loop steps fall due in turn, from the one owed now. -/
theorem runSteps_until_turn (k : Nat) {s : State} (hSession : s.session = 0#8) :
    ∃ n t, runSteps n s = .next t ∧ nextAction t = (PollStep.following^[k] s.owed).action ∧ t.session = 0#8 := by
  induction k generalizing s with
  | zero =>
    obtain ⟨n, t, hRun, hZero, hAgenda, hPatience, hOwed⟩ := runSteps_until_due hSession
    exact ⟨n, t, hRun, by simp [nextAction, hAgenda, hPatience, hOwed], hZero⟩
  | succ k ih =>
    obtain ⟨n, t, hRun, hZero, hAgenda, hPatience, hOwed⟩ := runSteps_until_due hSession
    obtain ⟨u, hStep, hZeroAfter, -, hOwedAfter, -⟩ := step_keeps_afterChoice hZero
    obtain ⟨m, v, hRunOn, hNext, hZeroLast⟩ := ih hZeroAfter
    refine ⟨n + (m + 1), v, ?_, ?_, hZeroLast⟩
    · rw [runSteps_add _ hRun, runSteps_succ_of_next hStep, hRunOn]
    · have hFollowing : (afterChoice t).owed = t.owed.following := by simp [afterChoice, hAgenda, hPatience]
      rw [hNext, hOwedAfter, hFollowing, hOwed, Function.iterate_succ_apply]

/-- Each of the four poll-loop steps is owed within four turns. -/
theorem PollStep.exists_turn (p q : PollStep) : ∃ k, PollStep.following^[k] q = p := by
  have hWithinFour : ∃ k < 4, PollStep.following^[k] q = p := by
    cases p <;> cases q <;> decide
  obtain ⟨k, -, hTurn⟩ := hWithinFour
  exact ⟨k, hTurn⟩

/-- Settles O55: the step falls due at its turn. -/
theorem everyPollStepComesUp : Obligations.EveryPollStepComesUp := by
  unfold Obligations.EveryPollStepComesUp
  intro s p hSession
  obtain ⟨k, rfl⟩ := p.exists_turn s.owed
  exact runSteps_until_turn k hSession

/-- Settles O56: the step comes up, and where it does it is enabled, because it stays enabled. -/
theorem everyRunIsWeaklyFair : Obligations.EveryRunIsWeaklyFair := by
  unfold Obligations.EveryRunIsWeaklyFair
  intro s hSession p hEnabled
  obtain ⟨n, t, hRun, hNext, -⟩ := everyPollStepComesUp s p hSession
  exact ⟨n, t, hRun, hEnabled n t hRun, hNext⟩

/-! ### The Booted indication in a run -/

/-- Some run from the state sends the Booted indication, and up to it nothing else. -/
def announcesFrom (s : State) : Prop :=
  ∃ n t status, runSteps n s = .next t ∧ t.bootPending = false ∧
    txBytes t.trace = txBytes s.trace ++ [0x30#8, status]

theorem announcesFrom_of_announcing_step {s t : State} (hStep : step s = .next t) (hAnnounced : t.bootPending = false)
    (hTrace : t.trace = s.trace ++ [.tx 0x30#8, .tx s.bootStatus]) : announcesFrom s :=
  ⟨1, t, s.bootStatus, runSteps_succ_of_next hStep, hAnnounced, by simp [hTrace]⟩

theorem announcesFrom_of_silent_step {s t : State} (hStep : step s = .next t)
    (hSilent : txBytes t.trace = txBytes s.trace) (h : announcesFrom t) : announcesFrom s := by
  obtain ⟨n, u, status, hRun, hAnnounced, hTrace⟩ := h
  exact ⟨n + 1, u, status, (runSteps_succ_of_next hStep).trans hRun, hAnnounced, by rw [hTrace, hSilent]⟩

/-- Where BOOT_ANNOUNCE is next and the boot pending, the step is the announcement (R156). -/
theorem announcesFrom_of_next {s : State} (hNext : nextAction s = .bootAnnounce) (hPending : s.bootPending = true) :
    announcesFrom s := by
  have hStep : step s = .next (bootAnnounce (afterChoice s)) := by
    rw [step_eq_perform, hNext, perform_bootAnnounce_of_pending (by rw [afterChoice_bootPending, hPending])]
  exact announcesFrom_of_announcing_step hStep rfl (by simp [Config.bootedCode])

/-- A run that starts with the boot pending and in which BOOT_ANNOUNCE comes up announces the boot: each step before
is silent, or is the announcement (R157). -/
theorem announcesFrom_of_runSteps {n : Nat} {s t : State} (hPending : s.bootPending = true)
    (hRun : runSteps n s = .next t) (hNext : nextAction t = .bootAnnounce) : announcesFrom s := by
  induction n generalizing s with
  | zero =>
    injection hRun with hRun
    exact announcesFrom_of_next (hRun ▸ hNext) hPending
  | succ n ih =>
    cases hStep : step s with
    | fault r => exact nomatch r
    | refused r => simp [runSteps, hStep] at hRun
    | next u =>
      rw [runSteps_succ_of_next hStep] at hRun
      rcases bootedIndicationComesFirst s u hPending hStep with ⟨hStill, hSilent⟩ | ⟨-, hAnnounced, hTrace⟩
      · exact announcesFrom_of_silent_step hStep hSilent (ih hStill hRun)
      · exact announcesFrom_of_announcing_step hStep hAnnounced hTrace

/-- Settles O57: BOOT_ANNOUNCE comes up in the run, so the run announces the boot. -/
theorem everyBootIsAnnounced : Obligations.EveryBootIsAnnounced := by
  unfold Obligations.EveryBootIsAnnounced
  intro s hSession hPending
  obtain ⟨n, t, hRun, hNext, -⟩ := everyPollStepComesUp s .bootAnnounce hSession
  exact announcesFrom_of_runSteps hPending hRun hNext

end Sys2Proof.Machine

/-! PROOFS. The scan translator and the key event queue: the release states (R115, R116), what a sequence of
prefixes does (R118) and the empty event (R133). -/

namespace Sys2Proof.Machine

theorem translateByte_of_release {s : State} (h : s.kstate = .release) (b : Byte) :
    translateByte b s = translateRelease b s := by
  rw [translateByte, h]

theorem translateByte_of_extendedRelease {s : State} (h : s.kstate = .extendedRelease) (b : Byte) :
    translateByte b s = translateExtendedRelease b s := by
  rw [translateByte, h]

/-- Settles O43: `EXT_PREFIX` only moves the translator, every other byte is emitted as a key-up (R115). -/
theorem translateInRelease : Obligations.TranslateInRelease := by
  unfold Obligations.TranslateInRelease
  intro s b hRelease
  rw [translateByte_of_release hRelease, translateRelease]
  split_ifs with hExt hFix
  · rfl
  · rfl
  · exact setKState_emitMapped .idle (baseMap s.params.scan b) true s

/-- Settles O44: ExtendedRelease has one arm for every byte, a key-up through the extended mapping (R116). -/
theorem translateInExtendedRelease : Obligations.TranslateInExtendedRelease := by
  unfold Obligations.TranslateInExtendedRelease
  intro s b hState
  exact (translateByte_of_extendedRelease hState b).trans (setKState_emitMapped .idle (extMap s.params.scan b) true s)

/-- A detour of the translator's state that ends where it began leaves the emitted event alone. -/
theorem setKState_emitMapped_setKState {s : State} {q : KState} (h : s.kstate = q) (k : KState) (m : Option Code)
    (up : Bool) : setKState q (emitMapped m up (setKState k s)) = emitMapped m up s := by
  subst h
  cases m <;> rfl

/-- Settles O45: from Idle the prefixes only move the translator, and the byte that ends the sequence brings it back
to Idle with the one event it emits (R118). -/
theorem prefixSequencesFromIdle : Obligations.PrefixSequencesFromIdle := by
  unfold Obligations.PrefixSequencesFromIdle
  intro s x hIdle hValid
  obtain ⟨-, -, -, hDistinct, -⟩ := s.params.scan.valid_iff.mp hValid
  have hRel : translateByte s.params.scan.relPrefix s = setKState .release s := by
    rw [translateByte_of_idle hIdle, translateIdle, if_neg hDistinct, if_pos rfl]
  have hExt : translateByte s.params.scan.extPrefix s = setKState .extended s := by
    rw [translateByte_of_idle hIdle, translateIdle, if_pos rfl]
  have hInExtended : ∀ b, translateByte b (setKState .extended s) = emitMapped (extMap s.params.scan b) false s :=
    fun b => setKState_emitMapped_setKState hIdle .extended _ false
  have hInExtendedRelease :
      ∀ b, translateByte b (setKState .extendedRelease s) = emitMapped (extMap s.params.scan b) true s :=
    fun b => setKState_emitMapped_setKState hIdle .extendedRelease _ true
  rw [hRel, hExt, hInExtended, hInExtended, hInExtended]
  refine ⟨fun hNotExt => ?_, rfl, ?_, rfl, rfl⟩
  · rw [translateByte_of_release rfl, translateRelease, setKState_params, if_neg hNotExt]
    exact setKState_emitMapped_setKState hIdle .release _ true
  · rw [translateByte_of_release (s := setKState .release s) rfl, translateRelease, setKState_params, if_pos rfl]
    cases s.params.options.fixExtRelease
    · exact hInExtended x
    · exact hInExtendedRelease x

/-- The slot a push of the empty value fills was empty (R133). -/
theorem KeyQueue.push_zero (q : KeyQueue) : q.push 0#8 = q := by
  rcases KeyQueue.push_cases 0#8 q with ⟨h0, hPush⟩ | ⟨_, h1, hPush⟩ | ⟨_, _, h2, hPush⟩ | ⟨_, _, _, hPush⟩
  · rw [hPush, ← h0]
  · rw [hPush, ← h1]
  · rw [hPush, ← h2]
  · exact hPush

/-- Settles O47: a push of the empty value leaves the queue as it was. -/
theorem pushOfZeroChangesNothing : Obligations.PushOfZeroChangesNothing := by
  unfold Obligations.PushOfZeroChangesNothing
  exact fun s => push_of_kq rfl s.kq.push_zero

end Sys2Proof.Machine

/-! PROOFS. The mouse report, bit by bit (R143, R144, R146). -/

namespace Sys2Proof.Machine

theorem overflows_eq (v : Half) : overflows v = decide (255 < v.toInt.natAbs) := rfl

theorem isNegative_eq (v : Half) : isNegative v = decide (v.toInt < 0) := rfl

theorem clampedMagnitude_toNat (v : Half) : (clampedMagnitude v).toNat = min v.toInt.natAbs 255 := by
  simp only [clampedMagnitude, overflows_eq, decide_eq_true_eq]
  split_ifs with hOver
  · rw [Nat.min_eq_right hOver.le]; rfl
  · rw [Nat.min_eq_left (Nat.not_lt.mp hOver), BitVec.toNat_ofNat, magnitude, Nat.mod_eq_of_lt (by omega)]

theorem getLsbD_or_ite (st m : Byte) (c : Bool) (i : Nat) :
    (if c then st ||| m else st).getLsbD i = (st.getLsbD i || (c && m.getLsbD i)) := by
  cases c <;> simp

/-- An axis sets the bits of its two masks where their tests hold, and carries every other bit through (R143). -/
theorem axisStatus_getLsbD (v : Half) (st sign ovf : Byte) (i : Nat) :
    (axisStatus v st sign ovf).getLsbD i =
      (st.getLsbD i || (overflows v && ovf.getLsbD i) || (isNegative v && sign.getLsbD i)) := by
  rw [axisStatus, getLsbD_or_ite, getLsbD_or_ite]

/-- The encoded status byte, bit by bit: both axes over the status without its sign bits (R143). -/
theorem reportStatus_getLsbD (a : MouseAcc) (i : Nat) :
    (reportStatus a).getLsbD i =
      (a.status.getLsbD i && (~~~(Config.signX ||| Config.signY)).getLsbD i ||
        (overflows a.x && Config.ovfX.getLsbD i) || (isNegative a.x && Config.signX.getLsbD i) ||
        (overflows a.y && Config.ovfY.getLsbD i) || (isNegative a.y && Config.signY.getLsbD i)) := by
  rw [reportStatus, axisStatus_getLsbD, axisStatus_getLsbD, BitVec.getLsbD_and]

/-- Settles O52: the magnitudes are the clamped ones; each bit of the status byte meets the masks that hold it. -/
theorem reportClampsAndFlags : Obligations.ReportClampsAndFlags := by
  unfold Obligations.ReportClampsAndFlags
  intro a
  refine ⟨_, _, _, rfl, clampedMagnitude_toNat a.x, clampedMagnitude_toNat a.y, fun i hi => ?_, ?_, ?_, ?_, ?_⟩ <;>
    rw [reportStatus_getLsbD]
  · interval_cases i <;> simp [Config.signX, Config.signY, Config.ovfX, Config.ovfY]
  all_goals simp [Config.signX, Config.signY, Config.ovfX, Config.ovfY, isNegative_eq, overflows_eq]

end Sys2Proof.Machine

/-! PROOFS. The sampler's and the frame decoder's single steps (R91, R94, R189). -/

namespace Sys2Proof.Machine

/-- A mailbox after SAMPLE, on the levels before and after (R91). -/
theorem sampledMailbox_eq (l : Line) (now : Wires) (s : State) :
    sampledMailbox l now s =
      if clkLevel l s.prev = true ∧ clkLevel l now = false then if dataLevel l now then .high else .low
      else s.mbox.get l := by
  simp [sampledMailbox, clkFalls_eq, BitState.ofLevel]

/-- Settles O27: the step is SAMPLE, which writes the snapshot and each mailbox on its own clock's fall (R91). -/
theorem sampleRecordsFallingEdges : Obligations.SampleRecordsFallingEdges := by
  unfold Obligations.SampleRecordsFallingEdges
  intro s now ag hAgenda
  rw [step_of_agenda hAgenda, perform, sample, sampledMailbox_eq, sampledMailbox_eq]
  rfl

/-! ### FRAME_POLL, an equation per branch -/

theorem framePoll_of_bit {s : State} {l : Line} {bit : Bool} (h : (s.mbox.get l).bit = some bit) :
    framePoll l s = consumeBit l bit s := by
  rw [framePoll, h]

theorem framePoll_of_waiting {s : State} {l : Line} (h : s.mbox.get l = .waiting) : framePoll l s = s := by
  rw [framePoll, h, BitState.bit]

theorem consumeBit_of_incomplete {s : State} {l : Line} {bit : Bool}
    (h : frameComplete (shiftIn (s.sr.get l) bit) = false) :
    consumeBit l bit s = takeBit l (shiftIn (s.sr.get l) bit) s := by
  simp [consumeBit, h]

theorem consumeBit_of_complete {s : State} {l : Line} {bit : Bool}
    (h : frameComplete (shiftIn (s.sr.get l) bit) = true) :
    consumeBit l bit s =
      if frameValid s.params.options.parityCheck (shiftIn (s.sr.get l) bit) then
        deliver l (frameByte (shiftIn (s.sr.get l) bit)) (takeBit l Config.seed s)
      else takeBit l Config.seed s := by
  simp [consumeBit, h]

theorem frameValid_iff (parityCheck : Bool) (r : Half) :
    frameValid parityCheck r = true ↔
      startBit r = false ∧ stopBit r = true ∧ (parityCheck = true → parityOk r = true) := by
  cases parityCheck <;> simp [frameValid, and_assoc]

/-- With the boot announced and a bit waiting, FRAME_POLL next is the use of that bit (R94). -/
theorem step_of_framePoll {s : State} {l : Line} {bit : Bool} {ag : List Action}
    (hAgenda : s.agenda = .framePoll l :: ag) (hBoot : s.bootPending = false) (hBit : (s.mbox.get l).bit = some bit) :
    step s = .next (consumeBit l bit { s with agenda := ag }) := by
  rw [step_of_agenda hAgenda, perform_framePoll_of_announced (s := { s with agenda := ag }) hBoot,
    framePoll_of_bit (s := { s with agenda := ag }) hBit]

/-- Settles O30: with nothing in the mailbox the poll does nothing, whether or not the gate is open (R94). -/
theorem emptyMailboxPollChangesNothing : Obligations.EmptyMailboxPollChangesNothing := by
  unfold Obligations.EmptyMailboxPollChangesNothing
  intro s l ag hAgenda hWaiting
  rw [step_of_agenda hAgenda, perform, framePoll_of_waiting (s := { s with agenda := ag }) hWaiting, ite_self]

/-- Settles O32: the incomplete branch takes the bit and writes the shifted register (R94). -/
theorem incompleteFrameOnlyShifts : Obligations.IncompleteFrameOnlyShifts := by
  unfold Obligations.IncompleteFrameOnlyShifts
  intro s l bit ag hAgenda hBoot hBit hShort
  rw [step_of_framePoll hAgenda hBoot hBit, consumeBit_of_incomplete (s := { s with agenda := ag }) hShort]
  rfl

/-- Settles O33: a wrong start bit, a wrong stop bit or a bad parity each make the complete frame invalid (R189). -/
theorem malformedFrameIsDiscarded : Obligations.MalformedFrameIsDiscarded := by
  unfold Obligations.MalformedFrameIsDiscarded
  intro s l bit ag hAgenda hBoot hBit hComplete hWrong
  have hInvalid : ¬ frameValid s.params.options.parityCheck (shiftIn (s.sr.get l) bit) = true := by
    rw [frameValid_iff]
    rintro ⟨hStart, hStop, hParity⟩
    rcases hWrong with hBadStart | hBadStop | ⟨hCheck, hBadParity⟩
    · exact Bool.false_ne_true (hStart.symm.trans hBadStart)
    · exact Bool.false_ne_true (hBadStop.symm.trans hStop)
    · exact Bool.false_ne_true (hBadParity.symm.trans (hParity hCheck))
  rw [step_of_framePoll hAgenda hBoot hBit, consumeBit_of_complete (s := { s with agenda := ag }) hComplete,
    if_neg hInvalid]
  rfl

/-- Settles O34: the frame is valid, so its byte is delivered over the re-seeded line (R94, R99, R100). -/
theorem validFrameIsDelivered : Obligations.ValidFrameIsDelivered := by
  unfold Obligations.ValidFrameIsDelivered
  intro s l bit ag hAgenda hBoot hBit hComplete hStart hStop hParity
  have hValid : frameValid s.params.options.parityCheck (shiftIn (s.sr.get l) bit) = true :=
    (frameValid_iff _ _).mpr ⟨hStart, hStop, hParity⟩
  rw [step_of_framePoll hAgenda hBoot hBit, consumeBit_of_complete (s := { s with agenda := ag }) hComplete,
    if_pos hValid]
  cases l <;> rfl

/-! ### The frame of FRAME_POLL -/

theorem deliver_mbox (l : Line) (b : Byte) (s : State) : (deliver l b s).mbox = s.mbox := by
  cases l
  · rw [deliver, translateByte_frame]
  · rfl

theorem deliver_sr (l : Line) (b : Byte) (s : State) : (deliver l b s).sr = s.sr := by
  cases l
  · rw [deliver, translateByte_frame]
  · rfl

/-- FRAME_POLL writes the mailbox and the register of its own line only (R41). -/
theorem framePoll_other_line {l m : Line} (h : m ≠ l) (s : State) :
    (framePoll l s).mbox.get m = s.mbox.get m ∧ (framePoll l s).sr.get m = s.sr.get m := by
  have hTaken : ∀ r, (takeBit l r s).mbox.get m = s.mbox.get m ∧ (takeBit l r s).sr.get m = s.sr.get m :=
    fun r => ⟨PerLine.get_set_of_ne _ h _, PerLine.get_set_of_ne _ h _⟩
  rcases framePoll_cases l s with ⟨_, hPoll⟩ | ⟨bit, _, ⟨_, hPoll⟩ | ⟨_, _, hPoll⟩ | ⟨_, _, hPoll⟩⟩ <;> rw [hPoll]
  · exact ⟨rfl, rfl⟩
  · exact hTaken _
  · exact hTaken _
  · rw [deliver_mbox, deliver_sr]
    exact hTaken _

/-- Settles O36: the frames of the two polls, and each poll's other line. -/
theorem framePollWritesItsOwnLine : Obligations.FramePollWritesItsOwnLine := by
  unfold Obligations.FramePollWritesItsOwnLine
  intro s
  obtain ⟨hMouseBox, hMouseSr⟩ := framePoll_other_line (l := .kbd) (m := .mouse) (by decide) s
  obtain ⟨hKbdBox, hKbdSr⟩ := framePoll_other_line (l := .mouse) (m := .kbd) (by decide) s
  refine ⟨?_, hMouseBox, hMouseSr, ?_, hKbdBox, hKbdSr⟩
  · rw [framePoll_kbd_frame]
  · rw [framePoll_mouse_frame]

end Sys2Proof.Machine

/-! PROOFS. Whole frames on one line: what the clocked bits do to the line's mailbox and register, from the wires to the
delivered byte (R76, R81, R94 to R101). -/

namespace Sys2Proof.Machine

/-! ### The state of one line -/

theorem BitState.bit_ofLevel (level : Bool) : (BitState.ofLevel level).bit = some level := by
  cases level <;> rfl

/-- The state with the wires, the mailbox and the register of one line replaced, and these actions to come. -/
def onLine (l : Line) (w : Wires) (data clk : Bool) (v : BitState) (r : Half) (ag : List Action) (s : State) : State :=
  { s with agenda := ag, prev := setWires l data clk w, mbox := s.mbox.set l v, sr := s.sr.set l r }

/-- Every state is its own line, replaced by itself. -/
theorem onLine_self (l : Line) (s : State) :
    onLine l s.prev (dataLevel l s.prev) (clkLevel l s.prev) (s.mbox.get l) (s.sr.get l) s.agenda s = s := by
  simp only [onLine, setWires_levels, PerLine.set_get]

section
variable (l : Line) (w : Wires) (d c : Bool) (v : BitState) (r : Half) (ag : List Action) (s : State)

theorem onLine_sr_get : (onLine l w d c v r ag s).sr.get l = r := PerLine.get_set _ l r

/-- A sample on one line: the other line's mailbox stays, because its clock does not move (R91). -/
theorem step_sample_onLine (d' c' : Bool) :
    step (onLine l w d c v r (.sample (setWires l d' c' w) :: ag) s) =
      .next (onLine l w d' c' (if c && !c' then .ofLevel d' else v) r ag s) := by
  obtain ⟨hOther, hOwn, hLevel, -⟩ := setWires_facts l w d c d' c'
  rw [step_of_agenda rfl, perform, sample]
  cases l
  · simp [onLine, sampledMailbox, hOwn, hLevel, hOther .mouse, PerLine.set, PerLine.get]
  · simp [onLine, sampledMailbox, hOwn, hLevel, hOther .kbd, PerLine.set, PerLine.get]

theorem takeBit_onLine (r' : Half) :
    takeBit l r' (onLine l w d c v r ag s) = onLine l w d c .waiting r' ag s := by
  simp only [takeBit, onLine, PerLine.set_set]

theorem consumeBit_onLine_of_incomplete {bit : Bool} (h : frameComplete (shiftIn r bit) = false) :
    consumeBit l bit (onLine l w d c v r ag s) = onLine l w d c .waiting (shiftIn r bit) ag s := by
  rw [consumeBit_of_incomplete (by rw [onLine_sr_get, h]), onLine_sr_get, takeBit_onLine]

theorem consumeBit_onLine_of_complete {bit : Bool} (h : frameComplete (shiftIn r bit) = true) :
    consumeBit l bit (onLine l w d c v r ag s) =
      if frameValid s.params.options.parityCheck (shiftIn r bit) then
        deliver l (frameByte (shiftIn r bit)) (onLine l w d c .waiting Config.seed ag s)
      else onLine l w d c .waiting Config.seed ag s := by
  rw [consumeBit_of_complete (by rw [onLine_sr_get, h]), onLine_sr_get, takeBit_onLine]
  rfl

/-- The three steps of one bit: the clock rises or stays up, it falls and the mailbox takes the bit, and the poll uses
it (R81). -/
theorem runSteps_bit (hBoot : s.bootPending = false) (bit : Bool) :
    runSteps 3 (onLine l w d c v r (bitActions l w bit ++ ag) s) =
      .next (consumeBit l bit (onLine l w bit false (.ofLevel bit) r ag s)) := by
  have hMailbox : ((onLine l w bit false (.ofLevel bit) r (.framePoll l :: ag) s).mbox.get l).bit = some bit := by
    rw [onLine, PerLine.get_set, BitState.bit_ofLevel]
  have hUp := step_sample_onLine l w d c v r (.sample (setWires l bit false w) :: .framePoll l :: ag) s bit true
  have hDown := step_sample_onLine l w bit true v r (.framePoll l :: ag) s bit false
  have hPoll := step_of_framePoll (s := onLine l w bit false (.ofLevel bit) r (.framePoll l :: ag) s) rfl hBoot hMailbox
  rw [Bool.not_true, Bool.and_false] at hUp
  exact (runSteps_succ_of_next hUp).trans ((runSteps_succ_of_next hDown).trans (runSteps_succ_of_next hPoll))

end

/-! ### The register while a frame comes in -/

/-- The sentinel of a register stands at position `k`: that many bits of the frame have been taken (R25). -/
def sentinelAt (k : Nat) (r : Half) : Prop := 2 ^ k ≤ r.toNat ∧ r.toNat < 2 ^ (k + 1)

theorem sentinelAt_seed : sentinelAt 0 Config.seed := by
  unfold sentinelAt; decide

theorem sentinelAt_shiftIn {k : Nat} {r : Half} (h : sentinelAt k r) (hk : k < 15) (bit : Bool) :
    sentinelAt (k + 1) (shiftIn r bit) := by
  obtain ⟨hLow, hHigh⟩ := h
  have hBit := Bool.toNat_le bit
  have hWord : 2 ^ (k + 1) ≤ 2 ^ 15 := Nat.pow_le_pow_right (by decide) hk
  unfold sentinelAt
  rw [shiftIn_toNat, Nat.mod_eq_of_lt (by omega), Nat.pow_succ 2 (k + 1), Nat.pow_succ 2 k]
  omega

theorem sentinelAt_foldl_shiftIn {k : Nat} {r : Half} (h : sentinelAt k r) (bits : List Bool)
    (hk : k + bits.length ≤ 15) : sentinelAt (k + bits.length) (bits.foldl shiftIn r) := by
  induction bits generalizing k r with
  | nil => exact h
  | cons bit bits ih =>
    rw [List.length_cons] at hk
    have hRest := ih (sentinelAt_shiftIn h (by omega) bit) (by omega)
    rwa [Nat.add_right_comm] at hRest

/-- Short of bit 11 the sentinel does not complete a frame (R96). -/
theorem frameComplete_of_sentinel_below {k : Nat} {r : Half} (h : sentinelAt k r) (hk : k < 11) :
    frameComplete r = false := by
  obtain ⟨-, hHigh⟩ := h
  exact Nat.testBit_lt_two_pow (hHigh.trans_le (Nat.pow_le_pow_right (by decide) hk))

/-- At bit 11 the sentinel completes the frame (R96). -/
theorem frameComplete_of_sentinel {r : Half} (h : sentinelAt 11 r) : frameComplete r = true := by
  obtain ⟨hLow, hHigh⟩ := h
  have hBit : r.toNat / 2 ^ 11 % 2 = 1 := by omega
  rw [frameComplete, Config.completeBit, BitVec.getLsbD, Nat.testBit_eq_decide_div_mod_eq, hBit]
  rfl

/-- Bits that do not complete a frame are shifted in, and nothing but the line changes. -/
theorem runSteps_bits (l : Line) (w : Wires) (ag : List Action) {s : State} (hBoot : s.bootPending = false)
    (bits : List Bool) {k : Nat} {r : Half} (hSentinel : sentinelAt k r) (hk : k + bits.length < 11) (d c : Bool)
    (v : BitState) :
    ∃ d' c' v', runSteps (3 * bits.length) (onLine l w d c v r (bits.flatMap (bitActions l w) ++ ag) s) =
      .next (onLine l w d' c' v' (bits.foldl shiftIn r) ag s) := by
  induction bits generalizing k r d c v with
  | nil => exact ⟨d, c, v, rfl⟩
  | cons bit bits ih =>
    rw [List.length_cons] at hk
    have hShifted := sentinelAt_shiftIn hSentinel (by omega) bit
    have hShort := frameComplete_of_sentinel_below hShifted (by omega)
    have hFirst := runSteps_bit l w d c v r (bits.flatMap (bitActions l w) ++ ag) s hBoot bit
    rw [consumeBit_onLine_of_incomplete (h := hShort)] at hFirst
    obtain ⟨d', c', v', hRest⟩ := ih hShifted (by omega) bit false .waiting
    refine ⟨d', c', v', ?_⟩
    rw [List.length_cons, Nat.mul_succ, Nat.add_comm, List.flatMap_cons, List.append_assoc, runSteps_add _ hFirst,
      hRest, List.foldl_cons]

/-! ### The register of a whole frame -/

/-- What eleven bits make of a seeded register. -/
def frameRegister (start : Bool) (d : Byte) (parity stop : Bool) : Half :=
  (frameBits start d parity stop).foldl shiftIn Config.seed

section
variable (start : Bool) (d : Byte) (parity stop : Bool)

theorem frameBits_length : (frameBits start d parity stop).length = 11 := rfl

theorem frameRegister_complete : frameComplete (frameRegister start d parity stop) = true := by
  have hSentinel := sentinelAt_foldl_shiftIn sentinelAt_seed (frameBits start d parity stop)
  rw [frameBits_length] at hSentinel
  exact frameComplete_of_sentinel (hSentinel (by decide))

/-- The last bit to arrive stands at position 0 of the register, the first of the eleven at position 10 (R77). -/
theorem frameRegister_getLsbD {i : Nat} (hi : i < 11) :
    (frameRegister start d parity stop).getLsbD i = (frameBits start d parity stop).getD (10 - i) false := by
  interval_cases i <;> simp [frameRegister, frameBits, shiftIn_eq_shiftConcat]

theorem startBit_frameRegister : startBit (frameRegister start d parity stop) = start :=
  frameRegister_getLsbD start d parity stop (by decide)

theorem stopBit_frameRegister : stopBit (frameRegister start d parity stop) = stop :=
  frameRegister_getLsbD start d parity stop (by decide)

/-- The data bits arrive low bit first, which is the order the frame byte reads them in (R76, R97). -/
theorem frameByte_frameRegister : frameByte (frameRegister start d parity stop) = d := by
  refine BitVec.eq_of_getLsbD_eq fun i hi => ?_
  rw [frameByteReversesTheRegister _ i hi, frameRegister_getLsbD _ _ _ _ (by omega)]
  interval_cases i <;> rfl

/-- Positions 9 down to 1 hold the data bits and the parity bit (R77, R98). -/
theorem parityOk_frameRegister : parityOk (frameRegister start d parity stop) = oddParity d parity := by
  have hCount : parityCount (frameRegister start d parity stop) =
      ((List.range 8).map fun i => (d.getLsbD i).toNat).sum + parity.toNat := by
    have hArrived : ∀ i ∈ List.range 9, ((frameRegister start d parity stop).getLsbD (i + 1)).toNat =
        ((frameBits start d parity stop).getD (10 - (i + 1)) false).toNat := fun i hi => by
      rw [frameRegister_getLsbD _ _ _ _ (Nat.succ_lt_succ ((List.mem_range.mp hi).trans (by decide)))]
    rw [parityCount, List.map_congr_left hArrived]
    simp [List.range_succ, frameBits]
    omega
  rw [parityOk, hCount, oddParity]

/-- The register's checks are those of the frame's bits (R96). -/
theorem frameValid_frameRegister (parityCheck : Bool) :
    frameValid parityCheck (frameRegister start d parity stop) = frameAccepted parityCheck start d parity stop := by
  rw [frameValid, startBit_frameRegister, stopBit_frameRegister, parityOk_frameRegister, frameAccepted]

end

/-! ### One frame from the wires to the byte -/

/-- TRANSLATE and replacing one line do not meet: the one writes the queue and the translator's state from those and the
parameters, the other writes none of them (R41). -/
theorem translateByte_onLine (b : Byte) (l : Line) (w : Wires) (d c : Bool) (v : BitState) (r : Half)
    (ag : List Action) (s : State) :
    translateByte b (onLine l w d c v r ag s) = onLine l w d c v r ag (translateByte b s) := by
  have hParams : (onLine l w d c v r ag s).params = s.params := rfl
  cases hState : s.kstate with
  | idle =>
    rw [translateInIdle _ b hState, translateInIdle (onLine l w d c v r ag s) b hState, hParams]
    split_ifs <;> rfl
  | extended =>
    rw [translateInExtended _ b hState, translateInExtended (onLine l w d c v r ag s) b hState]
    rfl
  | release =>
    rw [translateInRelease _ b hState, translateInRelease (onLine l w d c v r ag s) b hState, hParams]
    split_ifs <;> rfl
  | extendedRelease =>
    rw [translateInExtendedRelease _ b hState, translateInExtendedRelease (onLine l w d c v r ag s) b hState]
    rfl

theorem deliver_onLine (m : Line) (b : Byte) (l : Line) (w : Wires) (d c : Bool) (v : BitState) (r : Half)
    (ag : List Action) (s : State) :
    deliver m b (onLine l w d c v r ag s) = onLine l w d c v r ag (deliver m b s) := by
  cases m with
  | mouse => rfl
  | kbd => exact translateByte_onLine b l w d c v r ag s

/-- The frame's effect on the rest of the state: its byte delivered where it is accepted, and nothing where not. -/
def frameEffect (l : Line) (start : Bool) (d : Byte) (parity stop : Bool) (s : State) : State :=
  if frameAccepted s.params.options.parityCheck start d parity stop then deliver l d s else s

theorem frameEffect_onLine (l : Line) (start : Bool) (b : Byte) (parity stop : Bool) (w : Wires) (d c : Bool)
    (v : BitState) (r : Half) (ag : List Action) (s : State) :
    frameEffect l start b parity stop (onLine l w d c v r ag s) =
      onLine l w d c v r ag (frameEffect l start b parity stop s) := by
  have hParams : (onLine l w d c v r ag s).params = s.params := rfl
  simp only [frameEffect, hParams]
  split_ifs
  · exact deliver_onLine l b l w d c v r ag s
  · rfl

/-! ### The run of one frame -/

/-- The bits of a frame but its stop bit. -/
def bitsBeforeStop (start : Bool) (b : Byte) (parity : Bool) : List Bool :=
  (frameBits start b parity true).dropLast

/-- The bits of a frame but its start bit. -/
def bitsAfterStart (b : Byte) (parity stop : Bool) : List Bool :=
  (frameBits false b parity stop).tail

/-- What follows the last bit of a frame: the clock returns high (R81). -/
def clockRise (l : Line) (w : Wires) (stop : Bool) (ag : List Action) : List Action :=
  .sample (setWires l stop true w) :: ag

section
variable (l : Line) (w : Wires) (start : Bool) (b : Byte) (parity stop : Bool) (d c : Bool) (v : BitState)
  (ag : List Action) {s : State}

theorem frameActions_eq_before_stop :
    frameActions l w start b parity stop ++ ag =
      (bitsBeforeStop start b parity).flatMap (bitActions l w) ++ (bitActions l w stop ++ clockRise l w stop ag) := rfl

theorem frameSteps_eq_before_stop : frameSteps = 3 * (bitsBeforeStop start b parity).length + (3 + 1) := rfl

theorem frameActions_eq_after_start :
    frameActions l w start b parity stop ++ ag =
      bitActions l w start ++ ((bitsAfterStart b parity stop).flatMap (bitActions l w) ++ clockRise l w stop ag) := rfl

theorem frameSteps_eq_after_start : frameSteps = 3 + (3 * (bitsAfterStart b parity stop).length + 1) := rfl

theorem frameRegister_eq_shiftIn :
    frameRegister start b parity stop = shiftIn ((bitsBeforeStop start b parity).foldl shiftIn Config.seed) stop := rfl

/-- No mailbox takes a bit as the clock returns high (R91). -/
theorem runSteps_clockRise (r : Half) :
    runSteps 1 (onLine l w d c v r (clockRise l w stop ag) s) = .next (onLine l w stop true v r ag s) := by
  have hStep := step_sample_onLine l w d c v r ag s stop true
  rw [Bool.not_true, Bool.and_false] at hStep
  exact runSteps_succ_of_next hStep

/-- The stop bit completes a frame that began with a seeded register (R94, R96). -/
theorem runSteps_stopBit (hBoot : s.bootPending = false) :
    runSteps 3
        (onLine l w d c v ((bitsBeforeStop start b parity).foldl shiftIn Config.seed) (bitActions l w stop ++ ag) s) =
      .next (onLine l w stop false .waiting Config.seed ag (frameEffect l start b parity stop s)) := by
  have hComplete := frameRegister_complete start b parity stop
  rw [frameRegister_eq_shiftIn] at hComplete
  rw [runSteps_bit l w d c v _ ag s hBoot, consumeBit_onLine_of_complete (h := hComplete), ← frameRegister_eq_shiftIn,
    frameValid_frameRegister, frameByte_frameRegister, ← frameEffect_onLine]
  rfl

/-- The run of a frame that begins with a seeded register. -/
theorem runSteps_frame (hBoot : s.bootPending = false) :
    runSteps frameSteps (onLine l w d c v Config.seed (frameActions l w start b parity stop ++ ag) s) =
      .next (onLine l w stop true .waiting Config.seed ag (frameEffect l start b parity stop s)) := by
  obtain ⟨d', c', v', hEarly⟩ := runSteps_bits l w (bitActions l w stop ++ clockRise l w stop ag) hBoot
    (bitsBeforeStop start b parity) sentinelAt_seed (Nat.lt_succ_self 10) d c v
  rw [frameActions_eq_before_stop, frameSteps_eq_before_stop start b parity, runSteps_add _ hEarly,
    runSteps_add _ (runSteps_stopBit l w start b parity stop d' c' v' (clockRise l w stop ag) hBoot),
    runSteps_clockRise]

/-- A frame that begins ten bits into a window: its start bit is taken for the stop bit, the window is discarded, and
the other ten bits begin the next window (R101). -/
theorem runSteps_slippedFrame (hBoot : s.bootPending = false) {r : Half} (hTen : sentinelAt 10 r) :
    ∃ v' r', sentinelAt 10 r' ∧
      runSteps frameSteps (onLine l w d c v r (frameActions l w false b parity stop ++ ag) s) =
        .next (onLine l w stop true v' r' ag s) := by
  have hComplete : frameComplete (shiftIn r false) = true :=
    frameComplete_of_sentinel (sentinelAt_shiftIn hTen (by decide) false)
  have hInvalid : ¬ frameValid s.params.options.parityCheck (shiftIn r false) = true := by
    rw [frameValid_iff]
    rintro ⟨-, hStop, -⟩
    simp [stopBit, shiftIn_eq_shiftConcat] at hStop
  have hFirst := runSteps_bit l w d c v r
    ((bitsAfterStart b parity stop).flatMap (bitActions l w) ++ clockRise l w stop ag) s hBoot false
  rw [consumeBit_onLine_of_complete (h := hComplete), if_neg hInvalid] at hFirst
  obtain ⟨d', c', v', hLate⟩ := runSteps_bits l w (clockRise l w stop ag) hBoot (bitsAfterStart b parity stop)
    sentinelAt_seed (Nat.lt_succ_self 10) false false .waiting
  refine ⟨v', _, sentinelAt_foldl_shiftIn sentinelAt_seed (bitsAfterStart b parity stop) (Nat.le_add_right 10 5), ?_⟩
  rw [frameActions_eq_after_start, frameSteps_eq_after_start b parity stop, runSteps_add _ hFirst,
    runSteps_add _ hLate, runSteps_clockRise]

end

/-- Settles O37: the run of one frame, on the line as the state has it; the register is the seed before and after. -/
theorem elevenBitsMakeOneFrame : Obligations.ElevenBitsMakeOneFrame := by
  unfold Obligations.ElevenBitsMakeOneFrame
  intro s l start d parity stop ag hBoot hSeed hAgenda
  have hRegister : s.sr.get l = Config.seed := hSeed
  have hRun := runSteps_frame l s.prev start d parity stop (dataLevel l s.prev) (clkLevel l s.prev)
    (s.mbox.get l) ag hBoot
  rw [← hAgenda, ← hRegister, onLine_self, ← frameEffect_onLine] at hRun
  rw [hRun, onLine, PerLine.set_get]
  rfl

/-! ### A slipped line -/

/-- Ten bits of a window are taken exactly where the register lies in `0x0400..0x07FF` (R25). -/
theorem sentinelAt_ten_iff (r : Half) : sentinelAt 10 r ↔ 0x0400#16 ≤ r ∧ r ≤ 0x07FF#16 := by
  rw [BitVec.le_def, BitVec.le_def, sentinelAt]
  exact and_congr_right fun _ => Nat.lt_succ_iff

/-- The slip persists over any number of frames (R101). -/
theorem runSteps_slippedFrames (l : Line) (w : Wires) (ag : List Action) {s : State} (hBoot : s.bootPending = false)
    (frames : List (Byte × Bool)) {r : Half} (hTen : sentinelAt 10 r) (d c : Bool) (v : BitState) :
    ∃ d' c' v' r', sentinelAt 10 r' ∧
      runSteps (frameSteps * frames.length)
          (onLine l w d c v r ((frames.flatMap fun f => frameActions l w false f.1 f.2 true) ++ ag) s) =
        .next (onLine l w d' c' v' r' ag s) := by
  induction frames generalizing r d c v with
  | nil => exact ⟨d, c, v, r, hTen, rfl⟩
  | cons f frames ih =>
    obtain ⟨v₁, r₁, hTen₁, hFirst⟩ := runSteps_slippedFrame l w f.1 f.2 true d c v
      ((frames.flatMap fun f => frameActions l w false f.1 f.2 true) ++ ag) hBoot hTen
    obtain ⟨d', c', v', r', hTen', hRest⟩ := ih hTen₁ true true v₁
    refine ⟨d', c', v', r', hTen', ?_⟩
    rw [List.length_cons, Nat.mul_succ, Nat.add_comm, List.flatMap_cons, List.append_assoc, runSteps_add _ hFirst,
      hRest]

/-- Settles O38, by induction on the frames: a frame that begins ten bits into a window leaves the line ten bits into
the next, and writes nothing but the line. -/
theorem oneBitSlipDiscardsEveryLaterFrame : Obligations.OneBitSlipDiscardsEveryLaterFrame := by
  unfold Obligations.OneBitSlipDiscardsEveryLaterFrame
  intro frames s l ag hBoot hLow hHigh hAgenda
  obtain ⟨d', c', v', r', hTen, hRun⟩ := runSteps_slippedFrames l s.prev ag hBoot frames
    ((sentinelAt_ten_iff _).mpr ⟨hLow, hHigh⟩) (dataLevel l s.prev) (clkLevel l s.prev) (s.mbox.get l)
  rw [← hAgenda, onLine_self] at hRun
  refine ⟨_, hRun, rfl, rfl, rfl, rfl, ?_⟩
  rw [onLine_sr_get]
  exact (sentinelAt_ten_iff r').mp hTen

end Sys2Proof.Machine
